-- ==== Sys2Proof/Word.lean ====
section
/-! DEFINITION. The words of the machine: 64-bit register values and addresses, and bytes. -/

namespace Sys2Proof

/-- The value of a general register and an address of data memory: `XLEN` is the constant 64
(rules R7, R20, R50). -/
abbrev Word := BitVec 64

/-- One byte of data memory, of the program text or of the packet (rules R31, R50). -/
abbrev Byte := BitVec 8

end Sys2Proof
end

