-- ==== Sys2Proof/Config.lean ====
section
/-! DEFINITION. What a run is configured with: the parameters of rule R7, and the free values, opaque constants that
stand for everything rule R451 leaves unspecified. -/

namespace Sys2Proof

/-- Parameter `ENDIAN`: one byte order for instruction fields and data alike (rules R7, R55). -/
inductive Endian where
  | little
  | big
deriving DecidableEq, Repr

/-- Parameter `ALIGN`: what a misaligned access that is not atomic does (rules R7, R59). -/
inductive Align where
  | strict
  | split
deriving DecidableEq, Repr

/-- Parameter `UNINIT`: what reading a register that holds no value does (rules R7, R22). -/
inductive Uninit where
  | fault
  | any
deriving DecidableEq, Repr

/-- One region of `REGIONS`: `(base, len, readable, writable)` (rules R7, R51). `shared` is the platform's declaration
that `ENV` may write the region (rule R68; DESIGN CHOICE, log 6: the declaration stands beside the region). -/
structure Region where
  base : Word
  len : Nat
  readable : Bool
  writable : Bool
  shared : Bool
deriving DecidableEq, Repr

/-- One 8-byte slot of `PROG`, its bytes numbered by increasing address in the text (rules R26, R91). -/
structure Slot where
  b0 : Byte
  b1 : Byte
  b2 : Byte
  b3 : Byte
  b4 : Byte
  b5 : Byte
  b6 : Byte
  b7 : Byte
deriving DecidableEq, Repr

/-! ### The relations `HELPERS` and `ENV`, as plain data (DESIGN CHOICE, logs 5 and 6) -/

/-- The operators of a term of a relation; a comparison answers 1 or 0. -/
inductive RelOp where
  | add
  | sub
  | mul
  | div
  | mod
  | and
  | or
  | xor
  | shl
  | shr
  | eq
  | ltUnsigned
  | ltSigned
deriving DecidableEq, Repr

/-- A term of a relation: what a helper or `ENV` computes from the arguments, the memory before and its free choices. -/
inductive RelTerm where
  /-- A constant. -/
  | const (v : Word)
  /-- The argument register r(i + 1), or the value of `absent` when it holds no value (rule R316). -/
  | arg (i : Nat) (absent : RelTerm)
  /-- The free choice number k of this draw. -/
  | choice (k : Nat)
  /-- The position in the block that is being written. -/
  | index
  /-- The byte of memory before, at an address. -/
  | byte (addr : RelTerm)
  /-- An operator on two terms. -/
  | op (o : RelOp) (a b : RelTerm)
  /-- One of two terms: the second when the condition is 0. -/
  | ite (c a b : RelTerm)
deriving DecidableEq, Repr

/-- A block of bytes that a helper or `ENV` writes: `len` bytes from `base` on, each the low byte of `byte`, which may
speak of the position in the block. -/
structure RelBlock where
  base : RelTerm
  len : RelTerm
  byte : RelTerm
deriving DecidableEq, Repr

/-- A helper relation (rules R7, R316): which results and which memories after a call it relates to the arguments and
the memory before. Its members are the outcomes of all free choices. -/
inductive HelperRel where
  /-- The result and the blocks written, as terms; no block leaves memory unchanged. -/
  | terms (result : RelTerm) (blocks : List RelBlock)
  /-- An arbitrary relation, known by a number only: `Config.unknownHelper`. -/
  | unknown (name : Nat)
deriving DecidableEq, Repr

/-- The relation `ENV` on memory (rules R7, R68): which memories one move may leave. Its members are the moves of all
free choices. -/
inductive EnvRel where
  /-- The default: nothing else writes. -/
  | identity
  /-- The blocks one move writes, as terms. -/
  | terms (blocks : List RelBlock)
  /-- An arbitrary relation, known by a number only: `Config.unknownEnv`. -/
  | unknown (name : Nat)
deriving DecidableEq, Repr

/-- One outcome of a helper call: the result for r0, and the bytes of data memory the helper leaves changed, the last
one of an address counting (rule R316). -/
structure HelperOutcome where
  result : Word
  writes : List Host.Cell
deriving DecidableEq, Repr, Inhabited

/-- The parameters of a run that the step relation reads (rules R7, R41), with the defaults of rule R7. `MEM0` is a
further argument of the launch state, and `XLEN` and `NREGS` are constants of the types. -/
structure Params where
  /-- `ENDIAN`. -/
  endian : Endian := .little
  /-- `PROG`; its length is `PROG_LEN`. -/
  prog : List Slot
  /-- `REGIONS`. -/
  regions : List Region
  /-- `STACK_SIZE`. -/
  stackSize : Nat := 512
  /-- `FP0`. -/
  fp0 : Word
  /-- `CTX`. -/
  ctx : Word
  /-- `ALIGN`. -/
  align : Align := .strict
  /-- `UNINIT`. -/
  uninit : Uninit := .fault
  /-- `ISA_VERSION`. -/
  isaVersion : Nat := 4
  /-- `FRAME_STRIDE`. -/
  frameStride : Nat := 512
  /-- `MAX_CALL_DEPTH`. -/
  maxCallDepth : Nat := 8
  /-- `HELPERS`: the first entry of a number counts, and a number without entry is outside the domain. -/
  helpers : List (BitVec 32 × HelperRel)
  /-- `PACKET`. -/
  packet : List Byte
  /-- `ENV`. -/
  env : EnvRel := .identity
  /-- The model's own number of this run: free values of two runs may differ (log 15). -/
  run : Nat := 0
deriving DecidableEq, Repr

/-- FREE VALUE (rule R451 (a), log 3): what the read numbered `draw` of the run `run` answers from a register that holds
no value, under `UNINIT = any`. -/
opaque Config.uninitRead (run draw : Nat) : Word

/-- FREE VALUE (rule R451 (b), log 4): the launch content of a byte that `MEM0` does not give, fixed for the run. -/
opaque Config.initialByte (run addr : Nat) : Byte

/-- FREE VALUE (rule R451 (c), log 5): the choices a helper makes in the draw numbered `draw` of the run `run`. -/
opaque Config.helperDraw (run draw : Nat) : List Word

/-- FREE VALUE (rule R451 (d), log 6): how many moves `ENV` makes in the draw numbered `draw` of the run `run` (the length
of the list, 0 among them), and the choices of each. -/
opaque Config.envDraw (run draw : Nat) : List (List Word)

/-- FREE VALUE (rule R316, log 5): the outcome of the helper relation number `name` for these choices, the argument
registers r1 to r5 (each a value or no value) and the memory before the call. -/
opaque Config.unknownHelper (name : Nat) (choices : List Word) (args : List (Option Word)) (mem : Nat → Byte) :
    HelperOutcome

/-- FREE VALUE (rule R68, log 6): the bytes that a move of the relation number `name` writes, for these choices and the
memory before it. -/
opaque Config.unknownEnv (name : Nat) (choices : List Word) (mem : Nat → Byte) : List Host.Cell

end Sys2Proof
end

