-- ==== Sys2Proof/Machine/Memory.lean ====
section
/-! DEFINITION. Data memory as plain data: the listed bytes in one canonical form, and the operations on one byte. -/

namespace Sys2Proof.Machine

/-- Data memory (rules R31, R50): the bytes that `MEM0` gave or that something has written, addresses strictly rising.
An address that is not listed holds its unspecified launch byte (rule R40), which no list can name (log 4). -/
abbrev Memory := List Host.Cell

/-- The byte listed for an address, if one is. -/
def Memory.get : Memory → Nat → Option Byte
  | [], _ => none
  | (b, v) :: m, a => if a = b then some v else Memory.get m a

/-- Memory with the byte at one address written, in the canonical form again. -/
def Memory.set : Memory → Nat → Byte → Memory
  | [], a, v => [(a, v)]
  | (b, w) :: m, a, v =>
    if a < b then (a, v) :: (b, w) :: m
    else if a = b then (a, v) :: m
    else (b, w) :: Memory.set m a v

/-- Memory with consecutive bytes written from an address on, the first at that address. -/
def Memory.setBytes : Memory → Nat → List Byte → Memory
  | m, _, [] => m
  | m, a, v :: vs => Memory.setBytes (Memory.set m a v) (a + 1) vs

/-- Memory with the listed bytes written in turn. -/
def Memory.setCells : Memory → List Host.Cell → Memory
  | m, [] => m
  | m, (a, v) :: cs => Memory.setCells (Memory.set m a v) cs

/-- Every listed address is above `lo`, and addresses strictly rise. -/
def Memory.risingAbove : Nat → Memory → Bool
  | _, [] => true
  | lo, (a, _) :: m => decide (lo < a) && Memory.risingAbove a m

/-- The canonical form: addresses strictly rise. No byte is left out for its value: what an unlisted address holds is a
free value (log 4). -/
def Memory.wf : Memory → Bool
  | [] => true
  | (a, _) :: m => Memory.risingAbove a m

end Sys2Proof.Machine
end

