-- ==== Sys2Proof/Syntax.lean ====
section
/-! DEFINITION. The abstract syntax: the registers, and one constructor of `Instr` for each row of
spec/opcode_table.json. The alias mnemonics `xadddw` and `xaddw` have no rows: their words are those of `aadd` and
`aadd32` (rule R134). -/

namespace Sys2Proof

/-- The eleven general registers (rules R20, R21). -/
inductive Reg where
  | r0
  | r1
  | r2
  | r3
  | r4
  | r5
  | r6
  | r7
  | r8
  | r9
  | r10
deriving DecidableEq, Repr

/-- The instructions. `rd` and `rs` are the registers the fields dst and src name; `imm` is the 32-bit immediate as
encoded (the 64-bit one for `lddw`), `off` the byte offset of a memory operand, `disp` the encoded displacement, `id` a
helper number (rules R14, R110 to R115). -/
inductive Instr where
  -- 64-bit arithmetic
  /-- `add rd, rs` (rule R141). -/
  | addReg (rd rs : Reg)
  /-- `add rd, imm32` (rule R142). -/
  | addImm (rd : Reg) (imm : BitVec 32)
  /-- `sub rd, rs` (rule R143). -/
  | subReg (rd rs : Reg)
  /-- `sub rd, imm32` (rule R144). -/
  | subImm (rd : Reg) (imm : BitVec 32)
  /-- `mul rd, rs` (rule R145). -/
  | mulReg (rd rs : Reg)
  /-- `mul rd, imm32` (rule R146). -/
  | mulImm (rd : Reg) (imm : BitVec 32)
  /-- `div rd, rs` (rule R147). -/
  | divReg (rd rs : Reg)
  /-- `div rd, imm32` (rule R148). -/
  | divImm (rd : Reg) (imm : BitVec 32)
  /-- `mod rd, rs` (rule R149). -/
  | modReg (rd rs : Reg)
  /-- `mod rd, imm32` (rule R150). -/
  | modImm (rd : Reg) (imm : BitVec 32)
  /-- `and rd, rs` (rule R151). -/
  | andReg (rd rs : Reg)
  /-- `and rd, imm32` (rule R152). -/
  | andImm (rd : Reg) (imm : BitVec 32)
  /-- `or rd, rs` (rule R153). -/
  | orReg (rd rs : Reg)
  /-- `or rd, imm32` (rule R154). -/
  | orImm (rd : Reg) (imm : BitVec 32)
  /-- `xor rd, rs` (rule R155). -/
  | xorReg (rd rs : Reg)
  /-- `xor rd, imm32` (rule R156). -/
  | xorImm (rd : Reg) (imm : BitVec 32)
  /-- `lsh rd, rs` (rule R157). -/
  | lshReg (rd rs : Reg)
  /-- `lsh rd, imm32` (rule R158). -/
  | lshImm (rd : Reg) (imm : BitVec 32)
  /-- `rsh rd, rs` (rule R159). -/
  | rshReg (rd rs : Reg)
  /-- `rsh rd, imm32` (rule R160). -/
  | rshImm (rd : Reg) (imm : BitVec 32)
  /-- `arsh rd, rs` (rule R161). -/
  | arshReg (rd rs : Reg)
  /-- `arsh rd, imm32` (rule R162). -/
  | arshImm (rd : Reg) (imm : BitVec 32)
  /-- `neg rd` (rule R163). -/
  | neg (rd : Reg)
  /-- `mov rd, rs` (rule R164). -/
  | movReg (rd rs : Reg)
  /-- `mov rd, imm32` (rule R165). -/
  | movImm (rd : Reg) (imm : BitVec 32)
  /-- `movs rd, rs, 8` (rule R166). -/
  | movs8 (rd rs : Reg)
  /-- `movs rd, rs, 16` (rule R167). -/
  | movs16 (rd rs : Reg)
  /-- `movs rd, rs, 32` (rule R168). -/
  | movs32 (rd rs : Reg)
  -- 32-bit arithmetic
  /-- `add32 rd, rs` (rule R181). -/
  | add32Reg (rd rs : Reg)
  /-- `add32 rd, imm32` (rule R182). -/
  | add32Imm (rd : Reg) (imm : BitVec 32)
  /-- `sub32 rd, rs` (rule R183). -/
  | sub32Reg (rd rs : Reg)
  /-- `sub32 rd, imm32` (rule R184). -/
  | sub32Imm (rd : Reg) (imm : BitVec 32)
  /-- `mul32 rd, rs` (rule R185). -/
  | mul32Reg (rd rs : Reg)
  /-- `mul32 rd, imm32` (rule R186). -/
  | mul32Imm (rd : Reg) (imm : BitVec 32)
  /-- `div32 rd, rs` (rule R187). -/
  | div32Reg (rd rs : Reg)
  /-- `div32 rd, imm32` (rule R188). -/
  | div32Imm (rd : Reg) (imm : BitVec 32)
  /-- `mod32 rd, rs` (rule R189). -/
  | mod32Reg (rd rs : Reg)
  /-- `mod32 rd, imm32` (rule R190). -/
  | mod32Imm (rd : Reg) (imm : BitVec 32)
  /-- `and32 rd, rs` (rule R191). -/
  | and32Reg (rd rs : Reg)
  /-- `and32 rd, imm32` (rule R192). -/
  | and32Imm (rd : Reg) (imm : BitVec 32)
  /-- `or32 rd, rs` (rule R193). -/
  | or32Reg (rd rs : Reg)
  /-- `or32 rd, imm32` (rule R194). -/
  | or32Imm (rd : Reg) (imm : BitVec 32)
  /-- `xor32 rd, rs` (rule R195). -/
  | xor32Reg (rd rs : Reg)
  /-- `xor32 rd, imm32` (rule R196). -/
  | xor32Imm (rd : Reg) (imm : BitVec 32)
  /-- `lsh32 rd, rs` (rule R197). -/
  | lsh32Reg (rd rs : Reg)
  /-- `lsh32 rd, imm32` (rule R198). -/
  | lsh32Imm (rd : Reg) (imm : BitVec 32)
  /-- `rsh32 rd, rs` (rule R199). -/
  | rsh32Reg (rd rs : Reg)
  /-- `rsh32 rd, imm32` (rule R200). -/
  | rsh32Imm (rd : Reg) (imm : BitVec 32)
  /-- `arsh32 rd, rs` (rule R201). -/
  | arsh32Reg (rd rs : Reg)
  /-- `arsh32 rd, imm32` (rule R202). -/
  | arsh32Imm (rd : Reg) (imm : BitVec 32)
  /-- `neg32 rd` (rule R203). -/
  | neg32 (rd : Reg)
  /-- `mov32 rd, rs` (rule R204). -/
  | mov32Reg (rd rs : Reg)
  /-- `mov32 rd, imm32` (rule R205). -/
  | mov32Imm (rd : Reg) (imm : BitVec 32)
  /-- `mov32s rd, rs, 8` (rule R206). -/
  | mov32s8 (rd rs : Reg)
  /-- `mov32s rd, rs, 16` (rule R207). -/
  | mov32s16 (rd rs : Reg)
  /-- `mov32s rd, rs, 32` (rule R208). -/
  | mov32s32 (rd rs : Reg)
  -- byte order and byte swap
  /-- `endle rd, 16` (rule R221). -/
  | endle16 (rd : Reg)
  /-- `endle rd, 32` (rule R222). -/
  | endle32 (rd : Reg)
  /-- `endle rd, 64` (rule R223). -/
  | endle64 (rd : Reg)
  /-- `endbe rd, 16` (rule R224). -/
  | endbe16 (rd : Reg)
  /-- `endbe rd, 32` (rule R225). -/
  | endbe32 (rd : Reg)
  /-- `endbe rd, 64` (rule R226). -/
  | endbe64 (rd : Reg)
  /-- `bswap rd, 16` (rule R227). -/
  | bswap16 (rd : Reg)
  /-- `bswap rd, 32` (rule R228). -/
  | bswap32 (rd : Reg)
  /-- `bswap rd, 64` (rule R229). -/
  | bswap64 (rd : Reg)
  -- the 64-bit immediate load
  /-- `lddw rd, imm64` (rule R240). -/
  | lddw (rd : Reg) (imm : BitVec 64)
  -- socket-filter loads
  /-- `ldabsw imm32` (rule R246). -/
  | ldabsw (imm : BitVec 32)
  /-- `ldabsh imm32` (rule R247). -/
  | ldabsh (imm : BitVec 32)
  /-- `ldabsb imm32` (rule R248). -/
  | ldabsb (imm : BitVec 32)
  /-- `ldindw rs, imm32` (rule R249). -/
  | ldindw (rs : Reg) (imm : BitVec 32)
  /-- `ldindh rs, imm32` (rule R250). -/
  | ldindh (rs : Reg) (imm : BitVec 32)
  /-- `ldindb rs, imm32` (rule R251). -/
  | ldindb (rs : Reg) (imm : BitVec 32)
  -- loads and stores
  /-- `ldxdw rd, [rs + offset16]` (rule R261). -/
  | ldxdw (rd rs : Reg) (off : BitVec 16)
  /-- `ldxw rd, [rs + offset16]` (rule R262). -/
  | ldxw (rd rs : Reg) (off : BitVec 16)
  /-- `ldxh rd, [rs + offset16]` (rule R263). -/
  | ldxh (rd rs : Reg) (off : BitVec 16)
  /-- `ldxb rd, [rs + offset16]` (rule R264). -/
  | ldxb (rd rs : Reg) (off : BitVec 16)
  /-- `ldxsdw rd, [rs + offset16]` (rule R265). -/
  | ldxsdw (rd rs : Reg) (off : BitVec 16)
  /-- `ldxsw rd, [rs + offset16]` (rule R266). -/
  | ldxsw (rd rs : Reg) (off : BitVec 16)
  /-- `ldxsh rd, [rs + offset16]` (rule R267). -/
  | ldxsh (rd rs : Reg) (off : BitVec 16)
  /-- `ldxsb rd, [rs + offset16]` (rule R268). -/
  | ldxsb (rd rs : Reg) (off : BitVec 16)
  /-- `stxdw [rd + offset16], rs` (rule R269). -/
  | stxdw (rd rs : Reg) (off : BitVec 16)
  /-- `stxw [rd + offset16], rs` (rule R270). -/
  | stxw (rd rs : Reg) (off : BitVec 16)
  /-- `stxh [rd + offset16], rs` (rule R271). -/
  | stxh (rd rs : Reg) (off : BitVec 16)
  /-- `stxb [rd + offset16], rs` (rule R272). -/
  | stxb (rd rs : Reg) (off : BitVec 16)
  /-- `stdw [rd + offset16], imm32` (rule R273). -/
  | stdw (rd : Reg) (off : BitVec 16) (imm : BitVec 32)
  /-- `stw [rd + offset16], imm32` (rule R274). -/
  | stw (rd : Reg) (off : BitVec 16) (imm : BitVec 32)
  /-- `sth [rd + offset16], imm32` (rule R275). -/
  | sth (rd : Reg) (off : BitVec 16) (imm : BitVec 32)
  /-- `stb [rd + offset16], imm32` (rule R276). -/
  | stb (rd : Reg) (off : BitVec 16) (imm : BitVec 32)
  -- jumps
  /-- `ja disp16` (rule R291). -/
  | ja (disp : BitVec 16)
  /-- `jal disp32` (rule R292). -/
  | jal (disp : BitVec 32)
  /-- `jeq rd, rs, disp16` (rule R293). -/
  | jeqReg (rd rs : Reg) (disp : BitVec 16)
  /-- `jeq rd, imm32, disp16` (rule R294). -/
  | jeqImm (rd : Reg) (imm : BitVec 32) (disp : BitVec 16)
  /-- `jgt rd, rs, disp16` (rule R295). -/
  | jgtReg (rd rs : Reg) (disp : BitVec 16)
  /-- `jgt rd, imm32, disp16` (rule R296). -/
  | jgtImm (rd : Reg) (imm : BitVec 32) (disp : BitVec 16)
  /-- `jge rd, rs, disp16` (rule R297). -/
  | jgeReg (rd rs : Reg) (disp : BitVec 16)
  /-- `jge rd, imm32, disp16` (rule R298). -/
  | jgeImm (rd : Reg) (imm : BitVec 32) (disp : BitVec 16)
  /-- `jlt rd, rs, disp16` (rule R299). -/
  | jltReg (rd rs : Reg) (disp : BitVec 16)
  /-- `jlt rd, imm32, disp16` (rule R300). -/
  | jltImm (rd : Reg) (imm : BitVec 32) (disp : BitVec 16)
  /-- `jle rd, rs, disp16` (rule R301). -/
  | jleReg (rd rs : Reg) (disp : BitVec 16)
  /-- `jle rd, imm32, disp16` (rule R302). -/
  | jleImm (rd : Reg) (imm : BitVec 32) (disp : BitVec 16)
  /-- `jset rd, rs, disp16` (rule R303). -/
  | jsetReg (rd rs : Reg) (disp : BitVec 16)
  /-- `jset rd, imm32, disp16` (rule R304). -/
  | jsetImm (rd : Reg) (imm : BitVec 32) (disp : BitVec 16)
  /-- `jne rd, rs, disp16` (rule R305). -/
  | jneReg (rd rs : Reg) (disp : BitVec 16)
  /-- `jne rd, imm32, disp16` (rule R306). -/
  | jneImm (rd : Reg) (imm : BitVec 32) (disp : BitVec 16)
  /-- `jsgt rd, rs, disp16` (rule R307). -/
  | jsgtReg (rd rs : Reg) (disp : BitVec 16)
  /-- `jsgt rd, imm32, disp16` (rule R308). -/
  | jsgtImm (rd : Reg) (imm : BitVec 32) (disp : BitVec 16)
  /-- `jsge rd, rs, disp16` (rule R309). -/
  | jsgeReg (rd rs : Reg) (disp : BitVec 16)
  /-- `jsge rd, imm32, disp16` (rule R310). -/
  | jsgeImm (rd : Reg) (imm : BitVec 32) (disp : BitVec 16)
  /-- `jslt rd, rs, disp16` (rule R311). -/
  | jsltReg (rd rs : Reg) (disp : BitVec 16)
  /-- `jslt rd, imm32, disp16` (rule R312). -/
  | jsltImm (rd : Reg) (imm : BitVec 32) (disp : BitVec 16)
  /-- `jsle rd, rs, disp16` (rule R313). -/
  | jsleReg (rd rs : Reg) (disp : BitVec 16)
  /-- `jsle rd, imm32, disp16` (rule R314). -/
  | jsleImm (rd : Reg) (imm : BitVec 32) (disp : BitVec 16)
  -- calls and exit
  /-- `call disp32` (rule R315). -/
  | callLocal (disp : BitVec 32)
  /-- `call imm32` (rule R316). -/
  | callHelper (id : BitVec 32)
  /-- `exit` (rule R317). -/
  | exit
  -- 32-bit conditional jumps
  /-- `jeq32 rd, rs, disp16` (rule R331). -/
  | jeq32Reg (rd rs : Reg) (disp : BitVec 16)
  /-- `jeq32 rd, imm32, disp16` (rule R332). -/
  | jeq32Imm (rd : Reg) (imm : BitVec 32) (disp : BitVec 16)
  /-- `jgt32 rd, rs, disp16` (rule R333). -/
  | jgt32Reg (rd rs : Reg) (disp : BitVec 16)
  /-- `jgt32 rd, imm32, disp16` (rule R334). -/
  | jgt32Imm (rd : Reg) (imm : BitVec 32) (disp : BitVec 16)
  /-- `jge32 rd, rs, disp16` (rule R335). -/
  | jge32Reg (rd rs : Reg) (disp : BitVec 16)
  /-- `jge32 rd, imm32, disp16` (rule R336). -/
  | jge32Imm (rd : Reg) (imm : BitVec 32) (disp : BitVec 16)
  /-- `jlt32 rd, rs, disp16` (rule R337). -/
  | jlt32Reg (rd rs : Reg) (disp : BitVec 16)
  /-- `jlt32 rd, imm32, disp16` (rule R338). -/
  | jlt32Imm (rd : Reg) (imm : BitVec 32) (disp : BitVec 16)
  /-- `jle32 rd, rs, disp16` (rule R339). -/
  | jle32Reg (rd rs : Reg) (disp : BitVec 16)
  /-- `jle32 rd, imm32, disp16` (rule R340). -/
  | jle32Imm (rd : Reg) (imm : BitVec 32) (disp : BitVec 16)
  /-- `jset32 rd, rs, disp16` (rule R341). -/
  | jset32Reg (rd rs : Reg) (disp : BitVec 16)
  /-- `jset32 rd, imm32, disp16` (rule R342). -/
  | jset32Imm (rd : Reg) (imm : BitVec 32) (disp : BitVec 16)
  /-- `jne32 rd, rs, disp16` (rule R343). -/
  | jne32Reg (rd rs : Reg) (disp : BitVec 16)
  /-- `jne32 rd, imm32, disp16` (rule R344). -/
  | jne32Imm (rd : Reg) (imm : BitVec 32) (disp : BitVec 16)
  /-- `jsgt32 rd, rs, disp16` (rule R345). -/
  | jsgt32Reg (rd rs : Reg) (disp : BitVec 16)
  /-- `jsgt32 rd, imm32, disp16` (rule R346). -/
  | jsgt32Imm (rd : Reg) (imm : BitVec 32) (disp : BitVec 16)
  /-- `jsge32 rd, rs, disp16` (rule R347). -/
  | jsge32Reg (rd rs : Reg) (disp : BitVec 16)
  /-- `jsge32 rd, imm32, disp16` (rule R348). -/
  | jsge32Imm (rd : Reg) (imm : BitVec 32) (disp : BitVec 16)
  /-- `jslt32 rd, rs, disp16` (rule R349). -/
  | jslt32Reg (rd rs : Reg) (disp : BitVec 16)
  /-- `jslt32 rd, imm32, disp16` (rule R350). -/
  | jslt32Imm (rd : Reg) (imm : BitVec 32) (disp : BitVec 16)
  /-- `jsle32 rd, rs, disp16` (rule R351). -/
  | jsle32Reg (rd rs : Reg) (disp : BitVec 16)
  /-- `jsle32 rd, imm32, disp16` (rule R352). -/
  | jsle32Imm (rd : Reg) (imm : BitVec 32) (disp : BitVec 16)
  -- 64-bit atomics
  /-- `acmp [rd + offset16], rs` (rule R361). -/
  | acmp (rd rs : Reg) (off : BitVec 16)
  /-- `axchg [rd + offset16], rs` (rule R362). -/
  | axchg (rd rs : Reg) (off : BitVec 16)
  /-- `aadd [rd + offset16], rs` (rule R363). -/
  | aadd (rd rs : Reg) (off : BitVec 16)
  /-- `aor [rd + offset16], rs` (rule R364). -/
  | aor (rd rs : Reg) (off : BitVec 16)
  /-- `aand [rd + offset16], rs` (rule R365). -/
  | aand (rd rs : Reg) (off : BitVec 16)
  /-- `axor [rd + offset16], rs` (rule R366). -/
  | axor (rd rs : Reg) (off : BitVec 16)
  /-- `afadd [rd + offset16], rs` (rule R367). -/
  | afadd (rd rs : Reg) (off : BitVec 16)
  /-- `afor [rd + offset16], rs` (rule R368). -/
  | afor (rd rs : Reg) (off : BitVec 16)
  /-- `afand [rd + offset16], rs` (rule R369). -/
  | afand (rd rs : Reg) (off : BitVec 16)
  /-- `afxor [rd + offset16], rs` (rule R370). -/
  | afxor (rd rs : Reg) (off : BitVec 16)
  -- 32-bit atomics
  /-- `acmp32 [rd + offset16], rs` (rule R381). -/
  | acmp32 (rd rs : Reg) (off : BitVec 16)
  /-- `axchg32 [rd + offset16], rs` (rule R382). -/
  | axchg32 (rd rs : Reg) (off : BitVec 16)
  /-- `aadd32 [rd + offset16], rs` (rule R383). -/
  | aadd32 (rd rs : Reg) (off : BitVec 16)
  /-- `aor32 [rd + offset16], rs` (rule R384). -/
  | aor32 (rd rs : Reg) (off : BitVec 16)
  /-- `aand32 [rd + offset16], rs` (rule R385). -/
  | aand32 (rd rs : Reg) (off : BitVec 16)
  /-- `axor32 [rd + offset16], rs` (rule R386). -/
  | axor32 (rd rs : Reg) (off : BitVec 16)
  /-- `afadd32 [rd + offset16], rs` (rule R387). -/
  | afadd32 (rd rs : Reg) (off : BitVec 16)
  /-- `afor32 [rd + offset16], rs` (rule R388). -/
  | afor32 (rd rs : Reg) (off : BitVec 16)
  /-- `afand32 [rd + offset16], rs` (rule R389). -/
  | afand32 (rd rs : Reg) (off : BitVec 16)
  /-- `afxor32 [rd + offset16], rs` (rule R390). -/
  | afxor32 (rd rs : Reg) (off : BitVec 16)
deriving DecidableEq, Repr

end Sys2Proof
end

