-- ==== Sys2Proof/Machine/Registers.lean ====
section
/-! DEFINITION. The register file: eleven registers, each a value or no value, with r10 read-only. -/

namespace Sys2Proof.Machine

/-- The general registers (rules R20, R22): `none` is the spec's "no value". r10, the frame pointer, always holds a value
(rules R22, R404). The `w` registers are the low halves (rule R23). -/
structure RegFile where
  r0 : Option Word
  r1 : Option Word
  r2 : Option Word
  r3 : Option Word
  r4 : Option Word
  r5 : Option Word
  r6 : Option Word
  r7 : Option Word
  r8 : Option Word
  r9 : Option Word
  r10 : Word
deriving DecidableEq, Repr

/-- What register `r` holds: a value or no value (rule R22). -/
def RegFile.get (f : RegFile) : Reg → Option Word
  | .r0 => f.r0
  | .r1 => f.r1
  | .r2 => f.r2
  | .r3 => f.r3
  | .r4 => f.r4
  | .r5 => f.r5
  | .r6 => f.r6
  | .r7 => f.r7
  | .r8 => f.r8
  | .r9 => f.r9
  | .r10 => some f.r10

/-- `x[r] <- v` for an instruction. r10 is read-only (rule R24): decoding refuses every instruction that would write it,
and a write that came here all the same would leave it as it is (log 16). -/
def RegFile.set (f : RegFile) : Reg → Word → RegFile
  | .r0, v => { f with r0 := some v }
  | .r1, v => { f with r1 := some v }
  | .r2, v => { f with r2 := some v }
  | .r3, v => { f with r3 := some v }
  | .r4, v => { f with r4 := some v }
  | .r5, v => { f with r5 := some v }
  | .r6, v => { f with r6 := some v }
  | .r7, v => { f with r7 := some v }
  | .r8, v => { f with r8 := some v }
  | .r9, v => { f with r9 := some v }
  | .r10, _ => f

/-- r1 to r5 return to no value (rules R22, R245 (5), R316, R317). -/
def RegFile.dropArgs (f : RegFile) : RegFile :=
  { f with r1 := none, r2 := none, r3 := none, r4 := none, r5 := none }

/-- The registers at the entry of a local function: r0 and r6 to r9 hold no value, r1 to r5 are kept, r10 is lowered by
`stride` (rule R315). -/
def RegFile.enter (f : RegFile) (stride : Nat) : RegFile :=
  { f with
    r0 := none, r6 := none, r7 := none, r8 := none, r9 := none
    r10 := f.r10 - BitVec.ofNat 64 stride }

/-- The argument registers r1 to r5 as a helper sees them: each a value or no value (rule R316). -/
def RegFile.args (f : RegFile) : List (Option Word) := [f.r1, f.r2, f.r3, f.r4, f.r5]

end Sys2Proof.Machine
end

