-- ==== Sys2Proof/Machine/State.lean ====
section
/-! DEFINITION. The state of the machine (rule R35) with the parameters of its run, the reasons a step can stop, and the
launch state. -/

namespace Sys2Proof.Machine

/-- The kind of a data-memory access that a fault records (rules R401, R405). -/
inductive AccessKind where
  | read
  | write
  | readwrite
deriving DecidableEq, Repr

/-- The seven fault causes of rule R401, each with its info (rule R409). -/
inductive FaultCause where
  /-- Fetch outside `0 <= pc < PROG_LEN` (rule R402). -/
  | pcOutOfRange (pc : Int)
  /-- Decode of a slot that is no instruction; the word W of its first slot (rule R403). -/
  | illegalInstruction (w : Word)
  /-- A local call at the greatest depth; the depth at the call (rule R408). -/
  | callDepthExceeded (depth : Nat)
  /-- A helper number outside the domain of `HELPERS` (rule R407). -/
  | unknownHelper (id : BitVec 32)
  /-- A read of a register that holds no value, under `UNINIT = fault` (rule R404). -/
  | uninitRegisterRead (r : Reg)
  /-- A misaligned access: the address and the size (rule R406). -/
  | misalignedAccess (ea : Word) (n : Nat)
  /-- An access outside every region or without permission, or a packet load whose r6 is not `CTX` (rule R405). -/
  | memoryAccessFault (ea : Word) (n : Nat) (kind : AccessKind)
deriving DecidableEq, Repr

/-- The run status (rules R34, R400). -/
inductive Status where
  | running
  | exited (result : Word)
  | faulted (cause : FaultCause) (pc : Int)
deriving DecidableEq, Repr

/-- One record of the hidden call stack (rule R32). r10 always holds a value, so its saved copy does. -/
structure Frame where
  ret : Int
  s6 : Option Word
  s7 : Option Word
  s8 : Option Word
  s9 : Option Word
  s10 : Word
deriving DecidableEq, Repr

/-- The whole state of the machine. The first five fields are the tuple of rule R35; `params` holds the parameters of
the run (rule R41), which no step changes; the last three stand for the draws of rule R41 (logs 5, 6, 15). -/
structure State where
  /-- `x[0..10]`. -/
  regs : RegFile
  /-- The index of the slot to execute (rule R26). -/
  pc : Int
  /-- The call stack, the newest record last (rules R32, R315). -/
  frames : List Frame
  /-- Data memory (rule R31). -/
  mem : Memory
  /-- The run status (rule R34). -/
  status : Status
  /-- The parameters of the run (rules R7, R41). -/
  params : Params
  /-- MODEL'S OWN (log 6): the draws of `ENV` that are fixed in advance, one for each step to come: the moves before
  that step, each by its free choices (rules R41, R68). When none is left, `Config.envDraw` draws. -/
  envDraws : List (List (List Word))
  /-- MODEL'S OWN (log 5): the draws of the helpers that are fixed in advance, one for each helper call to come: its free
  choices (rules R41, R316). When none is left, `Config.helperDraw` draws. -/
  helperDraws : List (List Word)
  /-- MODEL'S OWN (logs 3, 15): how many free values the run has drawn. -/
  draws : Nat
deriving DecidableEq, Repr

/-- Why `step` has no next state. -/
inductive Fault where
  /-- Raised by `step` on a machine whose status is `Exited(v)`: it has no successor (rule R34). Safe: the machine of the
  spec does not step either. -/
  | exited (result : Word)
  /-- Raised by `step` on a machine whose status is `Faulted`: it has no successor (rules R34, R400). Safe: the machine of
  the spec does not step either. The fault itself was taken as a next state (log 8). -/
  | faulted (cause : FaultCause) (pc : Int)
deriving DecidableEq, Repr

/-- Why the model refuses. -/
inductive Refusal where
  /-- Raised by an arm of `exec` whose instruction has no meaning yet; no arm of this model is such. Safe: nothing is
  claimed of the instruction. -/
  | notModelled (mnemonic : String)
deriving DecidableEq, Repr

/-- The launch state for the parameters of rule R7 (rules R40, R440): `mem0` is `MEM0`, and `p` holds every other one,
the relations `HELPERS` and `ENV` among them. r1 is `CTX`, r10 is `FP0`, every other register holds no value, pc is 0, no
frame, status `Running`. `envDraws` and `helperDraws` are the draws of rule R41 that the run fixes in advance (logs 5, 6);
with none, the draws are free values from the start. -/
def State.launch (p : Params) (mem0 : Memory) (envDraws : List (List (List Word)) := [])
    (helperDraws : List (List Word) := []) : State where
  regs :=
    { r0 := none, r1 := some p.ctx, r2 := none, r3 := none, r4 := none, r5 := none
      r6 := none, r7 := none, r8 := none, r9 := none, r10 := p.fp0 }
  pc := 0
  frames := []
  mem := mem0
  status := .running
  params := p
  envDraws := envDraws
  helperDraws := helperDraws
  draws := 0

/-- The parameters of the model's reset. Rule R7 gives the defaults and leaves the launch arguments to the platform: the
arguments here are those of the spec's own test vectors with an empty program (DESIGN CHOICE, logs 1 and 14).
`UNINIT` is `any`, the other of the two values rule R7 allows, so that a program can run from reset without a fault for
reading a register that nothing has written (DESIGN CHOICE, log 2). -/
def resetParams : Params where
  prog := []
  regions := [⟨0xF000#64, 4096, true, true, false⟩]
  fp0 := 0x10000#64
  ctx := 0x20000#64
  uninit := .any
  helpers := []
  packet := []

/-- The machine right after reset: the launch state of rules R40 and R440 (the machine has no other reset) under
`resetParams`, with no byte of memory given and the default `ENV`, the identity (rule R7). -/
def State.reset : State := State.launch resetParams []

end Sys2Proof.Machine
end

