-- ==== Sys2Proof/Machine/Operands.lean ====
section
/-! DEFINITION. The operand forms: how immediates, offsets, displacements, shift amounts and packet indices are formed,
and which register an instruction writes and from which version on it exists. -/

namespace Sys2Proof.Machine

/-- `sext_64(imm32)`: the immediate of the 64-bit arithmetic group, of the 64-bit jumps and of `stdw` (rules R110, R140,
R290). -/
def sext64 {n : Nat} (v : BitVec n) : Word := v.signExtend 64

/-- `zext_64(v)` (rule R9). -/
def zext64 {n : Nat} (v : BitVec n) : Word := v.setWidth 64

/-- `w[i]` from `x[i]`: bits 31 to 0 (rule R23). -/
def low32 (v : Word) : BitVec 32 := v.setWidth 32

/-- The effective address `(x[base] + sext_64(offset16))[63:0]`, which wraps modulo 2^64 (rules R54, R111). -/
def effectiveAddress (base : Word) (off : BitVec 16) : Word := base + sext64 off

/-- The target of a taken jump with the encoded displacement `d`, `pc + 1 + s(d)` over unbounded integers (rules R27,
R112, R290). -/
def jumpTarget {n : Nat} (pc : Int) (d : BitVec n) : Int := pc + 1 + d.toInt

/-- A 64-bit shift amount: the low 6 bits of the operand (rules R157 to R162). -/
def shiftAmount64 (b : Word) : Nat := (b.setWidth 6).toNat

/-- A 32-bit shift amount: the low 5 bits of the operand (rules R197 to R202). -/
def shiftAmount32 (b : BitVec 32) : Nat := (b.setWidth 5).toNat

/-- The packet index of an absolute load, `s(imm32)` (rule R245 (2)). -/
def absoluteIndex (imm : BitVec 32) : Int := imm.toInt

/-- The packet index of an indirect load, `s((x[rs] + sext_64(imm32))[31:0])` (rule R245 (2)). -/
def indirectIndex (x : Word) (imm : BitVec 32) : Int := (low32 (x + sext64 imm)).toInt

/-- The operand register an instruction writes: rd in the formats ALU-R, ALU-I, ALU-U, MOVS, END, LDDW and LDX, rs in the
fetching atomics and the exchange (rules R24, R122). Registers written implicitly are not operands (rule R25). -/
def writtenOperand : Instr → Option Reg
  | .addReg rd _ => some rd
  | .addImm rd _ => some rd
  | .subReg rd _ => some rd
  | .subImm rd _ => some rd
  | .mulReg rd _ => some rd
  | .mulImm rd _ => some rd
  | .divReg rd _ => some rd
  | .divImm rd _ => some rd
  | .modReg rd _ => some rd
  | .modImm rd _ => some rd
  | .andReg rd _ => some rd
  | .andImm rd _ => some rd
  | .orReg rd _ => some rd
  | .orImm rd _ => some rd
  | .xorReg rd _ => some rd
  | .xorImm rd _ => some rd
  | .lshReg rd _ => some rd
  | .lshImm rd _ => some rd
  | .rshReg rd _ => some rd
  | .rshImm rd _ => some rd
  | .arshReg rd _ => some rd
  | .arshImm rd _ => some rd
  | .neg rd => some rd
  | .movReg rd _ => some rd
  | .movImm rd _ => some rd
  | .movs8 rd _ => some rd
  | .movs16 rd _ => some rd
  | .movs32 rd _ => some rd
  | .add32Reg rd _ => some rd
  | .add32Imm rd _ => some rd
  | .sub32Reg rd _ => some rd
  | .sub32Imm rd _ => some rd
  | .mul32Reg rd _ => some rd
  | .mul32Imm rd _ => some rd
  | .div32Reg rd _ => some rd
  | .div32Imm rd _ => some rd
  | .mod32Reg rd _ => some rd
  | .mod32Imm rd _ => some rd
  | .and32Reg rd _ => some rd
  | .and32Imm rd _ => some rd
  | .or32Reg rd _ => some rd
  | .or32Imm rd _ => some rd
  | .xor32Reg rd _ => some rd
  | .xor32Imm rd _ => some rd
  | .lsh32Reg rd _ => some rd
  | .lsh32Imm rd _ => some rd
  | .rsh32Reg rd _ => some rd
  | .rsh32Imm rd _ => some rd
  | .arsh32Reg rd _ => some rd
  | .arsh32Imm rd _ => some rd
  | .neg32 rd => some rd
  | .mov32Reg rd _ => some rd
  | .mov32Imm rd _ => some rd
  | .mov32s8 rd _ => some rd
  | .mov32s16 rd _ => some rd
  | .mov32s32 rd _ => some rd
  | .endle16 rd => some rd
  | .endle32 rd => some rd
  | .endle64 rd => some rd
  | .endbe16 rd => some rd
  | .endbe32 rd => some rd
  | .endbe64 rd => some rd
  | .bswap16 rd => some rd
  | .bswap32 rd => some rd
  | .bswap64 rd => some rd
  | .lddw rd _ => some rd
  | .ldabsw _ => none
  | .ldabsh _ => none
  | .ldabsb _ => none
  | .ldindw _ _ => none
  | .ldindh _ _ => none
  | .ldindb _ _ => none
  | .ldxdw rd _ _ => some rd
  | .ldxw rd _ _ => some rd
  | .ldxh rd _ _ => some rd
  | .ldxb rd _ _ => some rd
  | .ldxsdw rd _ _ => some rd
  | .ldxsw rd _ _ => some rd
  | .ldxsh rd _ _ => some rd
  | .ldxsb rd _ _ => some rd
  | .stxdw _ _ _ => none
  | .stxw _ _ _ => none
  | .stxh _ _ _ => none
  | .stxb _ _ _ => none
  | .stdw _ _ _ => none
  | .stw _ _ _ => none
  | .sth _ _ _ => none
  | .stb _ _ _ => none
  | .ja _ => none
  | .jal _ => none
  | .jeqReg _ _ _ => none
  | .jeqImm _ _ _ => none
  | .jgtReg _ _ _ => none
  | .jgtImm _ _ _ => none
  | .jgeReg _ _ _ => none
  | .jgeImm _ _ _ => none
  | .jltReg _ _ _ => none
  | .jltImm _ _ _ => none
  | .jleReg _ _ _ => none
  | .jleImm _ _ _ => none
  | .jsetReg _ _ _ => none
  | .jsetImm _ _ _ => none
  | .jneReg _ _ _ => none
  | .jneImm _ _ _ => none
  | .jsgtReg _ _ _ => none
  | .jsgtImm _ _ _ => none
  | .jsgeReg _ _ _ => none
  | .jsgeImm _ _ _ => none
  | .jsltReg _ _ _ => none
  | .jsltImm _ _ _ => none
  | .jsleReg _ _ _ => none
  | .jsleImm _ _ _ => none
  | .callLocal _ => none
  | .callHelper _ => none
  | .exit => none
  | .jeq32Reg _ _ _ => none
  | .jeq32Imm _ _ _ => none
  | .jgt32Reg _ _ _ => none
  | .jgt32Imm _ _ _ => none
  | .jge32Reg _ _ _ => none
  | .jge32Imm _ _ _ => none
  | .jlt32Reg _ _ _ => none
  | .jlt32Imm _ _ _ => none
  | .jle32Reg _ _ _ => none
  | .jle32Imm _ _ _ => none
  | .jset32Reg _ _ _ => none
  | .jset32Imm _ _ _ => none
  | .jne32Reg _ _ _ => none
  | .jne32Imm _ _ _ => none
  | .jsgt32Reg _ _ _ => none
  | .jsgt32Imm _ _ _ => none
  | .jsge32Reg _ _ _ => none
  | .jsge32Imm _ _ _ => none
  | .jslt32Reg _ _ _ => none
  | .jslt32Imm _ _ _ => none
  | .jsle32Reg _ _ _ => none
  | .jsle32Imm _ _ _ => none
  | .acmp _ _ _ => none
  | .axchg _ rs _ => some rs
  | .aadd _ _ _ => none
  | .aor _ _ _ => none
  | .aand _ _ _ => none
  | .axor _ _ _ => none
  | .afadd _ rs _ => some rs
  | .afor _ rs _ => some rs
  | .afand _ rs _ => some rs
  | .afxor _ rs _ => some rs
  | .acmp32 _ _ _ => none
  | .axchg32 _ rs _ => some rs
  | .aadd32 _ _ _ => none
  | .aor32 _ _ _ => none
  | .aand32 _ _ _ => none
  | .axor32 _ _ _ => none
  | .afadd32 _ rs _ => some rs
  | .afor32 _ rs _ => some rs
  | .afand32 _ rs _ => some rs
  | .afxor32 _ rs _ => some rs

/-- The instructions that exist only from version 3 of the instruction set on: the 22 conditional 32-bit jumps and the 18
atomics other than `aadd` and `aadd32` (rule R123). -/
def needsV3 : Instr → Bool
  | .addReg _ _ => false
  | .addImm _ _ => false
  | .subReg _ _ => false
  | .subImm _ _ => false
  | .mulReg _ _ => false
  | .mulImm _ _ => false
  | .divReg _ _ => false
  | .divImm _ _ => false
  | .modReg _ _ => false
  | .modImm _ _ => false
  | .andReg _ _ => false
  | .andImm _ _ => false
  | .orReg _ _ => false
  | .orImm _ _ => false
  | .xorReg _ _ => false
  | .xorImm _ _ => false
  | .lshReg _ _ => false
  | .lshImm _ _ => false
  | .rshReg _ _ => false
  | .rshImm _ _ => false
  | .arshReg _ _ => false
  | .arshImm _ _ => false
  | .neg _ => false
  | .movReg _ _ => false
  | .movImm _ _ => false
  | .movs8 _ _ => false
  | .movs16 _ _ => false
  | .movs32 _ _ => false
  | .add32Reg _ _ => false
  | .add32Imm _ _ => false
  | .sub32Reg _ _ => false
  | .sub32Imm _ _ => false
  | .mul32Reg _ _ => false
  | .mul32Imm _ _ => false
  | .div32Reg _ _ => false
  | .div32Imm _ _ => false
  | .mod32Reg _ _ => false
  | .mod32Imm _ _ => false
  | .and32Reg _ _ => false
  | .and32Imm _ _ => false
  | .or32Reg _ _ => false
  | .or32Imm _ _ => false
  | .xor32Reg _ _ => false
  | .xor32Imm _ _ => false
  | .lsh32Reg _ _ => false
  | .lsh32Imm _ _ => false
  | .rsh32Reg _ _ => false
  | .rsh32Imm _ _ => false
  | .arsh32Reg _ _ => false
  | .arsh32Imm _ _ => false
  | .neg32 _ => false
  | .mov32Reg _ _ => false
  | .mov32Imm _ _ => false
  | .mov32s8 _ _ => false
  | .mov32s16 _ _ => false
  | .mov32s32 _ _ => false
  | .endle16 _ => false
  | .endle32 _ => false
  | .endle64 _ => false
  | .endbe16 _ => false
  | .endbe32 _ => false
  | .endbe64 _ => false
  | .bswap16 _ => false
  | .bswap32 _ => false
  | .bswap64 _ => false
  | .lddw _ _ => false
  | .ldabsw _ => false
  | .ldabsh _ => false
  | .ldabsb _ => false
  | .ldindw _ _ => false
  | .ldindh _ _ => false
  | .ldindb _ _ => false
  | .ldxdw _ _ _ => false
  | .ldxw _ _ _ => false
  | .ldxh _ _ _ => false
  | .ldxb _ _ _ => false
  | .ldxsdw _ _ _ => false
  | .ldxsw _ _ _ => false
  | .ldxsh _ _ _ => false
  | .ldxsb _ _ _ => false
  | .stxdw _ _ _ => false
  | .stxw _ _ _ => false
  | .stxh _ _ _ => false
  | .stxb _ _ _ => false
  | .stdw _ _ _ => false
  | .stw _ _ _ => false
  | .sth _ _ _ => false
  | .stb _ _ _ => false
  | .ja _ => false
  | .jal _ => false
  | .jeqReg _ _ _ => false
  | .jeqImm _ _ _ => false
  | .jgtReg _ _ _ => false
  | .jgtImm _ _ _ => false
  | .jgeReg _ _ _ => false
  | .jgeImm _ _ _ => false
  | .jltReg _ _ _ => false
  | .jltImm _ _ _ => false
  | .jleReg _ _ _ => false
  | .jleImm _ _ _ => false
  | .jsetReg _ _ _ => false
  | .jsetImm _ _ _ => false
  | .jneReg _ _ _ => false
  | .jneImm _ _ _ => false
  | .jsgtReg _ _ _ => false
  | .jsgtImm _ _ _ => false
  | .jsgeReg _ _ _ => false
  | .jsgeImm _ _ _ => false
  | .jsltReg _ _ _ => false
  | .jsltImm _ _ _ => false
  | .jsleReg _ _ _ => false
  | .jsleImm _ _ _ => false
  | .callLocal _ => false
  | .callHelper _ => false
  | .exit => false
  | .jeq32Reg _ _ _ => true
  | .jeq32Imm _ _ _ => true
  | .jgt32Reg _ _ _ => true
  | .jgt32Imm _ _ _ => true
  | .jge32Reg _ _ _ => true
  | .jge32Imm _ _ _ => true
  | .jlt32Reg _ _ _ => true
  | .jlt32Imm _ _ _ => true
  | .jle32Reg _ _ _ => true
  | .jle32Imm _ _ _ => true
  | .jset32Reg _ _ _ => true
  | .jset32Imm _ _ _ => true
  | .jne32Reg _ _ _ => true
  | .jne32Imm _ _ _ => true
  | .jsgt32Reg _ _ _ => true
  | .jsgt32Imm _ _ _ => true
  | .jsge32Reg _ _ _ => true
  | .jsge32Imm _ _ _ => true
  | .jslt32Reg _ _ _ => true
  | .jslt32Imm _ _ _ => true
  | .jsle32Reg _ _ _ => true
  | .jsle32Imm _ _ _ => true
  | .acmp _ _ _ => true
  | .axchg _ _ _ => true
  | .aadd _ _ _ => false
  | .aor _ _ _ => true
  | .aand _ _ _ => true
  | .axor _ _ _ => true
  | .afadd _ _ _ => true
  | .afor _ _ _ => true
  | .afand _ _ _ => true
  | .afxor _ _ _ => true
  | .acmp32 _ _ _ => true
  | .axchg32 _ _ _ => true
  | .aadd32 _ _ _ => false
  | .aor32 _ _ _ => true
  | .aand32 _ _ _ => true
  | .axor32 _ _ _ => true
  | .afadd32 _ _ _ => true
  | .afor32 _ _ _ => true
  | .afand32 _ _ _ => true
  | .afxor32 _ _ _ => true

end Sys2Proof.Machine
end

