-- ==== Sys2Proof/WellFormed.lean ====
section
/-! DEFINITION. Which terms of `Instr` are instructions of a machine of a given version: the checks that the syntax does
not make by its types (register numbers and field widths it does). -/

namespace Sys2Proof

/-- The instruction does not write r10 (rules R24, R122). -/
def Instr.keepsR10 (i : Instr) : Bool := decide (Machine.writtenOperand i ≠ some .r10)

/-- The instruction exists on a machine of version `version` (rule R123). -/
def Instr.availableAt (version : Nat) (i : Instr) : Bool := !Machine.needsV3 i || decide (3 ≤ version)

/-- An instruction of a machine of version `version` (rules R122, R123). -/
def Instr.wellFormed (version : Nat) (i : Instr) : Bool := i.keepsR10 && i.availableAt version

end Sys2Proof
end

