-- ==== Sys2Proof/Decode.lean ====
section
/-! DEFINITION. From the 8 bytes of a slot to an instruction or a named refusal, in the order of rule R116, and back: the
encoder, written from the same encoding tables. -/

namespace Sys2Proof

/-- The number of a register in a register field (rule R115). -/
def Reg.num : Reg → BitVec 4
  | .r0 => 0#4
  | .r1 => 1#4
  | .r2 => 2#4
  | .r3 => 3#4
  | .r4 => 4#4
  | .r5 => 5#4
  | .r6 => 6#4
  | .r7 => 7#4
  | .r8 => 8#4
  | .r9 => 9#4
  | .r10 => 10#4

/-- The register a 4-bit field names; 11 to 15 name none (rules R115, R121). -/
def Reg.ofNum (n : BitVec 4) : Option Reg :=
  match n.toNat with
  | 0 => some .r0
  | 1 => some .r1
  | 2 => some .r2
  | 3 => some .r3
  | 4 => some .r4
  | 5 => some .r5
  | 6 => some .r6
  | 7 => some .r7
  | 8 => some .r8
  | 9 => some .r9
  | 10 => some .r10
  | _ => none

/-- The five fields of a slot (rules R91, R92). -/
structure Fields where
  opcode : BitVec 8
  dst : BitVec 4
  src : BitVec 4
  offset : BitVec 16
  imm : BitVec 32
deriving DecidableEq, Repr

/-- Splitting the 8 bytes of a slot into fields, in the byte order of the machine (rules R91, R92). -/
def Slot.fields (s : Slot) : Endian → Fields
  | .little =>
    { opcode := s.b0, dst := s.b1.extractLsb' 0 4, src := s.b1.extractLsb' 4 4
      offset := s.b3 ++ s.b2, imm := s.b7 ++ s.b6 ++ s.b5 ++ s.b4 }
  | .big =>
    { opcode := s.b0, dst := s.b1.extractLsb' 4 4, src := s.b1.extractLsb' 0 4
      offset := s.b2 ++ s.b3, imm := s.b4 ++ s.b5 ++ s.b6 ++ s.b7 }

/-- The 8 bytes of a slot with given fields (rules R91, R92). -/
def Fields.slot (f : Fields) : Endian → Slot
  | .little =>
    { b0 := f.opcode, b1 := f.src ++ f.dst
      b2 := f.offset.extractLsb' 0 8, b3 := f.offset.extractLsb' 8 8
      b4 := f.imm.extractLsb' 0 8, b5 := f.imm.extractLsb' 8 8
      b6 := f.imm.extractLsb' 16 8, b7 := f.imm.extractLsb' 24 8 }
  | .big =>
    { b0 := f.opcode, b1 := f.dst ++ f.src
      b2 := f.offset.extractLsb' 8 8, b3 := f.offset.extractLsb' 0 8
      b4 := f.imm.extractLsb' 24 8, b5 := f.imm.extractLsb' 16 8
      b6 := f.imm.extractLsb' 8 8, b7 := f.imm.extractLsb' 0 8 }

/-- The canonical word W of rule R93. -/
def Fields.word (f : Fields) : BitVec 64 := f.imm ++ f.offset ++ f.src ++ f.dst ++ f.opcode

/-- The fields of a canonical word (rule R93). -/
def Fields.ofWord (w : BitVec 64) : Fields where
  opcode := w.extractLsb' 0 8
  dst := w.extractLsb' 8 4
  src := w.extractLsb' 12 4
  offset := w.extractLsb' 16 16
  imm := w.extractLsb' 32 32

/-- Why a slot is no instruction. Every one of them is the fault `IllegalInstruction` (rule R403). -/
inductive Illegal where
  /-- No row of the opcode table matches: opcode, selector or a must-be-zero field (rules R120, R124). -/
  | noRow
  /-- A register number above 10 (rule R121). -/
  | badRegister
  /-- The instruction would write r10 (rule R122). -/
  | writesR10
  /-- A version 3 instruction on an older machine (rule R123). -/
  | versionTooLow
  /-- `lddw` in the last slot of the program (rule R96). -/
  | lddwTruncated
  /-- The second slot of `lddw` has a non-zero opcode, register byte or offset (rule R96). -/
  | lddwSecondSlot
deriving DecidableEq, Repr

/-! ### The formats of rule R108: the fixed fields, then the register numbers -/

/-- An instruction with one register operand in dst. -/
def withDst (f : Fields) (mk : Reg → Instr) : Except Illegal Instr :=
  match Reg.ofNum f.dst with
  | some d => .ok (mk d)
  | none => .error .badRegister

/-- An instruction with one register operand in src. -/
def withSrc (f : Fields) (mk : Reg → Instr) : Except Illegal Instr :=
  match Reg.ofNum f.src with
  | some d => .ok (mk d)
  | none => .error .badRegister

/-- An instruction with register operands in dst and src. -/
def withRegs (f : Fields) (mk : Reg → Reg → Instr) : Except Illegal Instr :=
  match Reg.ofNum f.dst, Reg.ofNum f.src with
  | some d, some s => .ok (mk d s)
  | _, _ => .error .badRegister

/-- A row of the table applies only when its fixed fields hold (rule R108). -/
def fixed (c : Bool) (r : Except Illegal Instr) : Except Illegal Instr := if c then r else .error .noRow

/-- Format ALU-R. -/
def fmtAluR (f : Fields) (mk : Reg → Reg → Instr) : Except Illegal Instr :=
  fixed (f.offset == 0 && f.imm == 0) (withRegs f mk)

/-- Formats ALU-R and MOVS under one opcode: the offset selects the move (rule R106). -/
def fmtMov (f : Fields) (mk mk8 mk16 mk32 : Reg → Reg → Instr) : Except Illegal Instr :=
  fixed (f.imm == 0) (match f.offset.toNat with
    | 0 => withRegs f mk
    | 8 => withRegs f mk8
    | 16 => withRegs f mk16
    | 32 => withRegs f mk32
    | _ => .error .noRow)

/-- Formats ALU-I and LDDW. -/
def fmtAluI (f : Fields) (mk : Reg → BitVec 32 → Instr) : Except Illegal Instr :=
  fixed (f.src == 0 && f.offset == 0) (withDst f fun d => mk d f.imm)

/-- Format ALU-U. -/
def fmtAluU (f : Fields) (mk : Reg → Instr) : Except Illegal Instr :=
  fixed (f.src == 0 && f.offset == 0 && f.imm == 0) (withDst f mk)

/-- Format END: the immediate selects the width (rule R105). -/
def fmtEnd (f : Fields) (mk16 mk32 mk64 : Reg → Instr) : Except Illegal Instr :=
  fixed (f.src == 0 && f.offset == 0) (match f.imm.toNat with
    | 16 => withDst f mk16
    | 32 => withDst f mk32
    | 64 => withDst f mk64
    | _ => .error .noRow)

/-- Format LDABS. -/
def fmtLdabs (f : Fields) (mk : BitVec 32 → Instr) : Except Illegal Instr :=
  fixed (f.dst == 0 && f.src == 0 && f.offset == 0) (.ok (mk f.imm))

/-- Format LDIND. -/
def fmtLdind (f : Fields) (mk : Reg → BitVec 32 → Instr) : Except Illegal Instr :=
  fixed (f.dst == 0 && f.offset == 0) (withSrc f fun s => mk s f.imm)

/-- Formats LDX, STX and JCC-R. -/
def fmtMem (f : Fields) (mk : Reg → Reg → BitVec 16 → Instr) : Except Illegal Instr :=
  fixed (f.imm == 0) (withRegs f fun d s => mk d s f.offset)

/-- Format ST. -/
def fmtSt (f : Fields) (mk : Reg → BitVec 16 → BitVec 32 → Instr) : Except Illegal Instr :=
  fixed (f.src == 0) (withDst f fun d => mk d f.offset f.imm)

/-- Format JCC-I. -/
def fmtJccI (f : Fields) (mk : Reg → BitVec 32 → BitVec 16 → Instr) : Except Illegal Instr :=
  fixed (f.src == 0) (withDst f fun d => mk d f.imm f.offset)

/-- Format JA16. -/
def fmtJa16 (f : Fields) (mk : BitVec 16 → Instr) : Except Illegal Instr :=
  fixed (f.dst == 0 && f.src == 0 && f.imm == 0) (.ok (mk f.offset))

/-- Format JA32. -/
def fmtJa32 (f : Fields) (mk : BitVec 32 → Instr) : Except Illegal Instr :=
  fixed (f.dst == 0 && f.src == 0 && f.offset == 0) (.ok (mk f.imm))

/-- Format CALL: src selects the local call or the helper call (rule R107). -/
def fmtCall (f : Fields) (mkLocal mkHelper : BitVec 32 → Instr) : Except Illegal Instr :=
  fixed (f.dst == 0 && f.offset == 0) (match f.src.toNat with
    | 0 => .ok (mkHelper f.imm)
    | 1 => .ok (mkLocal f.imm)
    | _ => .error .noRow)

/-- Format EXIT. -/
def fmtExit (f : Fields) (mk : Instr) : Except Illegal Instr :=
  fixed (f.dst == 0 && f.src == 0 && f.offset == 0 && f.imm == 0) (.ok mk)

/-- The 64-bit atomics: the immediate selects the operation (rule R104). -/
def fmtAtomic64 (f : Fields) : Except Illegal Instr :=
  match f.imm.toNat with
  | 0x00 => withRegs f fun d s => .aadd d s f.offset
  | 0x01 => withRegs f fun d s => .afadd d s f.offset
  | 0x40 => withRegs f fun d s => .aor d s f.offset
  | 0x41 => withRegs f fun d s => .afor d s f.offset
  | 0x50 => withRegs f fun d s => .aand d s f.offset
  | 0x51 => withRegs f fun d s => .afand d s f.offset
  | 0xA0 => withRegs f fun d s => .axor d s f.offset
  | 0xA1 => withRegs f fun d s => .afxor d s f.offset
  | 0xE1 => withRegs f fun d s => .axchg d s f.offset
  | 0xF1 => withRegs f fun d s => .acmp d s f.offset
  | _ => .error .noRow

/-- The 32-bit atomics: the immediate selects the operation (rule R104). -/
def fmtAtomic32 (f : Fields) : Except Illegal Instr :=
  match f.imm.toNat with
  | 0x00 => withRegs f fun d s => .aadd32 d s f.offset
  | 0x01 => withRegs f fun d s => .afadd32 d s f.offset
  | 0x40 => withRegs f fun d s => .aor32 d s f.offset
  | 0x41 => withRegs f fun d s => .afor32 d s f.offset
  | 0x50 => withRegs f fun d s => .aand32 d s f.offset
  | 0x51 => withRegs f fun d s => .afand32 d s f.offset
  | 0xA0 => withRegs f fun d s => .axor32 d s f.offset
  | 0xA1 => withRegs f fun d s => .afxor32 d s f.offset
  | 0xE1 => withRegs f fun d s => .axchg32 d s f.offset
  | 0xF1 => withRegs f fun d s => .acmp32 d s f.offset
  | _ => .error .noRow

/-- Steps (3) and (4) of rule R116: the row of the table that the slot matches (rules R108, R126), and the register
numbers. The immediate of `lddw` is its low half only until step (7). -/
def decodeRow (f : Fields) : Except Illegal Instr :=
  match f.opcode.toNat with
  | 0x04 => fmtAluI f .add32Imm
  | 0x05 => fmtJa16 f .ja
  | 0x06 => fmtJa32 f .jal
  | 0x07 => fmtAluI f .addImm
  | 0x0C => fmtAluR f .add32Reg
  | 0x0F => fmtAluR f .addReg
  | 0x14 => fmtAluI f .sub32Imm
  | 0x15 => fmtJccI f .jeqImm
  | 0x16 => fmtJccI f .jeq32Imm
  | 0x17 => fmtAluI f .subImm
  | 0x18 => fmtAluI f fun d lo => .lddw d (0#32 ++ lo)
  | 0x1C => fmtAluR f .sub32Reg
  | 0x1D => fmtMem f .jeqReg
  | 0x1E => fmtMem f .jeq32Reg
  | 0x1F => fmtAluR f .subReg
  | 0x20 => fmtLdabs f .ldabsw
  | 0x24 => fmtAluI f .mul32Imm
  | 0x25 => fmtJccI f .jgtImm
  | 0x26 => fmtJccI f .jgt32Imm
  | 0x27 => fmtAluI f .mulImm
  | 0x28 => fmtLdabs f .ldabsh
  | 0x2C => fmtAluR f .mul32Reg
  | 0x2D => fmtMem f .jgtReg
  | 0x2E => fmtMem f .jgt32Reg
  | 0x2F => fmtAluR f .mulReg
  | 0x30 => fmtLdabs f .ldabsb
  | 0x34 => fmtAluI f .div32Imm
  | 0x35 => fmtJccI f .jgeImm
  | 0x36 => fmtJccI f .jge32Imm
  | 0x37 => fmtAluI f .divImm
  | 0x3C => fmtAluR f .div32Reg
  | 0x3D => fmtMem f .jgeReg
  | 0x3E => fmtMem f .jge32Reg
  | 0x3F => fmtAluR f .divReg
  | 0x40 => fmtLdind f .ldindw
  | 0x44 => fmtAluI f .or32Imm
  | 0x45 => fmtJccI f .jsetImm
  | 0x46 => fmtJccI f .jset32Imm
  | 0x47 => fmtAluI f .orImm
  | 0x48 => fmtLdind f .ldindh
  | 0x4C => fmtAluR f .or32Reg
  | 0x4D => fmtMem f .jsetReg
  | 0x4E => fmtMem f .jset32Reg
  | 0x4F => fmtAluR f .orReg
  | 0x50 => fmtLdind f .ldindb
  | 0x54 => fmtAluI f .and32Imm
  | 0x55 => fmtJccI f .jneImm
  | 0x56 => fmtJccI f .jne32Imm
  | 0x57 => fmtAluI f .andImm
  | 0x5C => fmtAluR f .and32Reg
  | 0x5D => fmtMem f .jneReg
  | 0x5E => fmtMem f .jne32Reg
  | 0x5F => fmtAluR f .andReg
  | 0x61 => fmtMem f .ldxw
  | 0x62 => fmtSt f .stw
  | 0x63 => fmtMem f .stxw
  | 0x64 => fmtAluI f .lsh32Imm
  | 0x65 => fmtJccI f .jsgtImm
  | 0x66 => fmtJccI f .jsgt32Imm
  | 0x67 => fmtAluI f .lshImm
  | 0x69 => fmtMem f .ldxh
  | 0x6A => fmtSt f .sth
  | 0x6B => fmtMem f .stxh
  | 0x6C => fmtAluR f .lsh32Reg
  | 0x6D => fmtMem f .jsgtReg
  | 0x6E => fmtMem f .jsgt32Reg
  | 0x6F => fmtAluR f .lshReg
  | 0x71 => fmtMem f .ldxb
  | 0x72 => fmtSt f .stb
  | 0x73 => fmtMem f .stxb
  | 0x74 => fmtAluI f .rsh32Imm
  | 0x75 => fmtJccI f .jsgeImm
  | 0x76 => fmtJccI f .jsge32Imm
  | 0x77 => fmtAluI f .rshImm
  | 0x79 => fmtMem f .ldxdw
  | 0x7A => fmtSt f .stdw
  | 0x7B => fmtMem f .stxdw
  | 0x7C => fmtAluR f .rsh32Reg
  | 0x7D => fmtMem f .jsgeReg
  | 0x7E => fmtMem f .jsge32Reg
  | 0x7F => fmtAluR f .rshReg
  | 0x81 => fmtMem f .ldxsw
  | 0x84 => fmtAluU f .neg32
  | 0x85 => fmtCall f .callLocal .callHelper
  | 0x87 => fmtAluU f .neg
  | 0x89 => fmtMem f .ldxsh
  | 0x91 => fmtMem f .ldxsb
  | 0x94 => fmtAluI f .mod32Imm
  | 0x95 => fmtExit f .exit
  | 0x97 => fmtAluI f .modImm
  | 0x99 => fmtMem f .ldxsdw
  | 0x9C => fmtAluR f .mod32Reg
  | 0x9F => fmtAluR f .modReg
  | 0xA4 => fmtAluI f .xor32Imm
  | 0xA5 => fmtJccI f .jltImm
  | 0xA6 => fmtJccI f .jlt32Imm
  | 0xA7 => fmtAluI f .xorImm
  | 0xAC => fmtAluR f .xor32Reg
  | 0xAD => fmtMem f .jltReg
  | 0xAE => fmtMem f .jlt32Reg
  | 0xAF => fmtAluR f .xorReg
  | 0xB4 => fmtAluI f .mov32Imm
  | 0xB5 => fmtJccI f .jleImm
  | 0xB6 => fmtJccI f .jle32Imm
  | 0xB7 => fmtAluI f .movImm
  | 0xBC => fmtMov f .mov32Reg .mov32s8 .mov32s16 .mov32s32
  | 0xBD => fmtMem f .jleReg
  | 0xBE => fmtMem f .jle32Reg
  | 0xBF => fmtMov f .movReg .movs8 .movs16 .movs32
  | 0xC3 => fmtAtomic32 f
  | 0xC4 => fmtAluI f .arsh32Imm
  | 0xC5 => fmtJccI f .jsltImm
  | 0xC6 => fmtJccI f .jslt32Imm
  | 0xC7 => fmtAluI f .arshImm
  | 0xCC => fmtAluR f .arsh32Reg
  | 0xCD => fmtMem f .jsltReg
  | 0xCE => fmtMem f .jslt32Reg
  | 0xCF => fmtAluR f .arshReg
  | 0xD4 => fmtEnd f .endle16 .endle32 .endle64
  | 0xD5 => fmtJccI f .jsleImm
  | 0xD6 => fmtJccI f .jsle32Imm
  | 0xD7 => fmtEnd f .bswap16 .bswap32 .bswap64
  | 0xDB => fmtAtomic64 f
  | 0xDC => fmtEnd f .endbe16 .endbe32 .endbe64
  | 0xDD => fmtMem f .jsleReg
  | 0xDE => fmtMem f .jsle32Reg
  | _ => .error .noRow

/-- Step (7) of rule R116: the second slot of `lddw` gives the high half of the immediate, `imm(slot pc+1) ++
imm(slot pc)` (rules R96, R113). Every other instruction is one slot. -/
def decodeSecond (i : Instr) (next : Option Fields) : Except Illegal Instr :=
  match i with
  | .lddw d v =>
    match next with
    | none => .error .lddwTruncated
    | some g =>
      if g.opcode == 0 && g.dst == 0 && g.src == 0 && g.offset == 0 then
        .ok (.lddw d (g.imm ++ v.extractLsb' 0 32))
      else .error .lddwSecondSlot
  | i => .ok i

/-- Steps (3) to (7) of rule R116 on the fields of a slot and of the slot after it, if there is one, on a machine of
version `version`. -/
def decode (version : Nat) (f : Fields) (next : Option Fields) : Except Illegal Instr :=
  match decodeRow f with
  | .error e => .error e
  | .ok i =>
    if Machine.writtenOperand i = some .r10 then .error .writesR10
    else if Machine.needsV3 i && decide (version < 3) then .error .versionTooLow
    else decodeSecond i next

/-- Decoding slots in the byte order of the machine; of no slot at all, nothing. -/
def decodeSlots (version : Nat) (e : Endian) : List Slot → Except Illegal Instr
  | [] => .error .noRow
  | s :: rest => decode version (s.fields e) (rest.head?.map fun t => t.fields e)

/-! ### The encoder -/

/-- The fields of the first slot of an instruction (rules R98 to R108). -/
def encodeFirst : Instr → Fields
  | .addReg rd rs => ⟨0x0F, rd.num, rs.num, 0, 0⟩
  | .addImm rd imm => ⟨0x07, rd.num, 0, 0, imm⟩
  | .subReg rd rs => ⟨0x1F, rd.num, rs.num, 0, 0⟩
  | .subImm rd imm => ⟨0x17, rd.num, 0, 0, imm⟩
  | .mulReg rd rs => ⟨0x2F, rd.num, rs.num, 0, 0⟩
  | .mulImm rd imm => ⟨0x27, rd.num, 0, 0, imm⟩
  | .divReg rd rs => ⟨0x3F, rd.num, rs.num, 0, 0⟩
  | .divImm rd imm => ⟨0x37, rd.num, 0, 0, imm⟩
  | .modReg rd rs => ⟨0x9F, rd.num, rs.num, 0, 0⟩
  | .modImm rd imm => ⟨0x97, rd.num, 0, 0, imm⟩
  | .andReg rd rs => ⟨0x5F, rd.num, rs.num, 0, 0⟩
  | .andImm rd imm => ⟨0x57, rd.num, 0, 0, imm⟩
  | .orReg rd rs => ⟨0x4F, rd.num, rs.num, 0, 0⟩
  | .orImm rd imm => ⟨0x47, rd.num, 0, 0, imm⟩
  | .xorReg rd rs => ⟨0xAF, rd.num, rs.num, 0, 0⟩
  | .xorImm rd imm => ⟨0xA7, rd.num, 0, 0, imm⟩
  | .lshReg rd rs => ⟨0x6F, rd.num, rs.num, 0, 0⟩
  | .lshImm rd imm => ⟨0x67, rd.num, 0, 0, imm⟩
  | .rshReg rd rs => ⟨0x7F, rd.num, rs.num, 0, 0⟩
  | .rshImm rd imm => ⟨0x77, rd.num, 0, 0, imm⟩
  | .arshReg rd rs => ⟨0xCF, rd.num, rs.num, 0, 0⟩
  | .arshImm rd imm => ⟨0xC7, rd.num, 0, 0, imm⟩
  | .neg rd => ⟨0x87, rd.num, 0, 0, 0⟩
  | .movReg rd rs => ⟨0xBF, rd.num, rs.num, 0, 0⟩
  | .movImm rd imm => ⟨0xB7, rd.num, 0, 0, imm⟩
  | .movs8 rd rs => ⟨0xBF, rd.num, rs.num, 8, 0⟩
  | .movs16 rd rs => ⟨0xBF, rd.num, rs.num, 16, 0⟩
  | .movs32 rd rs => ⟨0xBF, rd.num, rs.num, 32, 0⟩
  | .add32Reg rd rs => ⟨0x0C, rd.num, rs.num, 0, 0⟩
  | .add32Imm rd imm => ⟨0x04, rd.num, 0, 0, imm⟩
  | .sub32Reg rd rs => ⟨0x1C, rd.num, rs.num, 0, 0⟩
  | .sub32Imm rd imm => ⟨0x14, rd.num, 0, 0, imm⟩
  | .mul32Reg rd rs => ⟨0x2C, rd.num, rs.num, 0, 0⟩
  | .mul32Imm rd imm => ⟨0x24, rd.num, 0, 0, imm⟩
  | .div32Reg rd rs => ⟨0x3C, rd.num, rs.num, 0, 0⟩
  | .div32Imm rd imm => ⟨0x34, rd.num, 0, 0, imm⟩
  | .mod32Reg rd rs => ⟨0x9C, rd.num, rs.num, 0, 0⟩
  | .mod32Imm rd imm => ⟨0x94, rd.num, 0, 0, imm⟩
  | .and32Reg rd rs => ⟨0x5C, rd.num, rs.num, 0, 0⟩
  | .and32Imm rd imm => ⟨0x54, rd.num, 0, 0, imm⟩
  | .or32Reg rd rs => ⟨0x4C, rd.num, rs.num, 0, 0⟩
  | .or32Imm rd imm => ⟨0x44, rd.num, 0, 0, imm⟩
  | .xor32Reg rd rs => ⟨0xAC, rd.num, rs.num, 0, 0⟩
  | .xor32Imm rd imm => ⟨0xA4, rd.num, 0, 0, imm⟩
  | .lsh32Reg rd rs => ⟨0x6C, rd.num, rs.num, 0, 0⟩
  | .lsh32Imm rd imm => ⟨0x64, rd.num, 0, 0, imm⟩
  | .rsh32Reg rd rs => ⟨0x7C, rd.num, rs.num, 0, 0⟩
  | .rsh32Imm rd imm => ⟨0x74, rd.num, 0, 0, imm⟩
  | .arsh32Reg rd rs => ⟨0xCC, rd.num, rs.num, 0, 0⟩
  | .arsh32Imm rd imm => ⟨0xC4, rd.num, 0, 0, imm⟩
  | .neg32 rd => ⟨0x84, rd.num, 0, 0, 0⟩
  | .mov32Reg rd rs => ⟨0xBC, rd.num, rs.num, 0, 0⟩
  | .mov32Imm rd imm => ⟨0xB4, rd.num, 0, 0, imm⟩
  | .mov32s8 rd rs => ⟨0xBC, rd.num, rs.num, 8, 0⟩
  | .mov32s16 rd rs => ⟨0xBC, rd.num, rs.num, 16, 0⟩
  | .mov32s32 rd rs => ⟨0xBC, rd.num, rs.num, 32, 0⟩
  | .endle16 rd => ⟨0xD4, rd.num, 0, 0, 0x10⟩
  | .endle32 rd => ⟨0xD4, rd.num, 0, 0, 0x20⟩
  | .endle64 rd => ⟨0xD4, rd.num, 0, 0, 0x40⟩
  | .endbe16 rd => ⟨0xDC, rd.num, 0, 0, 0x10⟩
  | .endbe32 rd => ⟨0xDC, rd.num, 0, 0, 0x20⟩
  | .endbe64 rd => ⟨0xDC, rd.num, 0, 0, 0x40⟩
  | .bswap16 rd => ⟨0xD7, rd.num, 0, 0, 0x10⟩
  | .bswap32 rd => ⟨0xD7, rd.num, 0, 0, 0x20⟩
  | .bswap64 rd => ⟨0xD7, rd.num, 0, 0, 0x40⟩
  | .lddw rd imm => ⟨0x18, rd.num, 0, 0, imm.extractLsb' 0 32⟩
  | .ldabsw imm => ⟨0x20, 0, 0, 0, imm⟩
  | .ldabsh imm => ⟨0x28, 0, 0, 0, imm⟩
  | .ldabsb imm => ⟨0x30, 0, 0, 0, imm⟩
  | .ldindw rs imm => ⟨0x40, 0, rs.num, 0, imm⟩
  | .ldindh rs imm => ⟨0x48, 0, rs.num, 0, imm⟩
  | .ldindb rs imm => ⟨0x50, 0, rs.num, 0, imm⟩
  | .ldxdw rd rs off => ⟨0x79, rd.num, rs.num, off, 0⟩
  | .ldxw rd rs off => ⟨0x61, rd.num, rs.num, off, 0⟩
  | .ldxh rd rs off => ⟨0x69, rd.num, rs.num, off, 0⟩
  | .ldxb rd rs off => ⟨0x71, rd.num, rs.num, off, 0⟩
  | .ldxsdw rd rs off => ⟨0x99, rd.num, rs.num, off, 0⟩
  | .ldxsw rd rs off => ⟨0x81, rd.num, rs.num, off, 0⟩
  | .ldxsh rd rs off => ⟨0x89, rd.num, rs.num, off, 0⟩
  | .ldxsb rd rs off => ⟨0x91, rd.num, rs.num, off, 0⟩
  | .stxdw rd rs off => ⟨0x7B, rd.num, rs.num, off, 0⟩
  | .stxw rd rs off => ⟨0x63, rd.num, rs.num, off, 0⟩
  | .stxh rd rs off => ⟨0x6B, rd.num, rs.num, off, 0⟩
  | .stxb rd rs off => ⟨0x73, rd.num, rs.num, off, 0⟩
  | .stdw rd off imm => ⟨0x7A, rd.num, 0, off, imm⟩
  | .stw rd off imm => ⟨0x62, rd.num, 0, off, imm⟩
  | .sth rd off imm => ⟨0x6A, rd.num, 0, off, imm⟩
  | .stb rd off imm => ⟨0x72, rd.num, 0, off, imm⟩
  | .ja disp => ⟨0x05, 0, 0, disp, 0⟩
  | .jal disp => ⟨0x06, 0, 0, 0, disp⟩
  | .jeqReg rd rs disp => ⟨0x1D, rd.num, rs.num, disp, 0⟩
  | .jeqImm rd imm disp => ⟨0x15, rd.num, 0, disp, imm⟩
  | .jgtReg rd rs disp => ⟨0x2D, rd.num, rs.num, disp, 0⟩
  | .jgtImm rd imm disp => ⟨0x25, rd.num, 0, disp, imm⟩
  | .jgeReg rd rs disp => ⟨0x3D, rd.num, rs.num, disp, 0⟩
  | .jgeImm rd imm disp => ⟨0x35, rd.num, 0, disp, imm⟩
  | .jltReg rd rs disp => ⟨0xAD, rd.num, rs.num, disp, 0⟩
  | .jltImm rd imm disp => ⟨0xA5, rd.num, 0, disp, imm⟩
  | .jleReg rd rs disp => ⟨0xBD, rd.num, rs.num, disp, 0⟩
  | .jleImm rd imm disp => ⟨0xB5, rd.num, 0, disp, imm⟩
  | .jsetReg rd rs disp => ⟨0x4D, rd.num, rs.num, disp, 0⟩
  | .jsetImm rd imm disp => ⟨0x45, rd.num, 0, disp, imm⟩
  | .jneReg rd rs disp => ⟨0x5D, rd.num, rs.num, disp, 0⟩
  | .jneImm rd imm disp => ⟨0x55, rd.num, 0, disp, imm⟩
  | .jsgtReg rd rs disp => ⟨0x6D, rd.num, rs.num, disp, 0⟩
  | .jsgtImm rd imm disp => ⟨0x65, rd.num, 0, disp, imm⟩
  | .jsgeReg rd rs disp => ⟨0x7D, rd.num, rs.num, disp, 0⟩
  | .jsgeImm rd imm disp => ⟨0x75, rd.num, 0, disp, imm⟩
  | .jsltReg rd rs disp => ⟨0xCD, rd.num, rs.num, disp, 0⟩
  | .jsltImm rd imm disp => ⟨0xC5, rd.num, 0, disp, imm⟩
  | .jsleReg rd rs disp => ⟨0xDD, rd.num, rs.num, disp, 0⟩
  | .jsleImm rd imm disp => ⟨0xD5, rd.num, 0, disp, imm⟩
  | .callLocal disp => ⟨0x85, 0, 1, 0, disp⟩
  | .callHelper id => ⟨0x85, 0, 0, 0, id⟩
  | .exit => ⟨0x95, 0, 0, 0, 0⟩
  | .jeq32Reg rd rs disp => ⟨0x1E, rd.num, rs.num, disp, 0⟩
  | .jeq32Imm rd imm disp => ⟨0x16, rd.num, 0, disp, imm⟩
  | .jgt32Reg rd rs disp => ⟨0x2E, rd.num, rs.num, disp, 0⟩
  | .jgt32Imm rd imm disp => ⟨0x26, rd.num, 0, disp, imm⟩
  | .jge32Reg rd rs disp => ⟨0x3E, rd.num, rs.num, disp, 0⟩
  | .jge32Imm rd imm disp => ⟨0x36, rd.num, 0, disp, imm⟩
  | .jlt32Reg rd rs disp => ⟨0xAE, rd.num, rs.num, disp, 0⟩
  | .jlt32Imm rd imm disp => ⟨0xA6, rd.num, 0, disp, imm⟩
  | .jle32Reg rd rs disp => ⟨0xBE, rd.num, rs.num, disp, 0⟩
  | .jle32Imm rd imm disp => ⟨0xB6, rd.num, 0, disp, imm⟩
  | .jset32Reg rd rs disp => ⟨0x4E, rd.num, rs.num, disp, 0⟩
  | .jset32Imm rd imm disp => ⟨0x46, rd.num, 0, disp, imm⟩
  | .jne32Reg rd rs disp => ⟨0x5E, rd.num, rs.num, disp, 0⟩
  | .jne32Imm rd imm disp => ⟨0x56, rd.num, 0, disp, imm⟩
  | .jsgt32Reg rd rs disp => ⟨0x6E, rd.num, rs.num, disp, 0⟩
  | .jsgt32Imm rd imm disp => ⟨0x66, rd.num, 0, disp, imm⟩
  | .jsge32Reg rd rs disp => ⟨0x7E, rd.num, rs.num, disp, 0⟩
  | .jsge32Imm rd imm disp => ⟨0x76, rd.num, 0, disp, imm⟩
  | .jslt32Reg rd rs disp => ⟨0xCE, rd.num, rs.num, disp, 0⟩
  | .jslt32Imm rd imm disp => ⟨0xC6, rd.num, 0, disp, imm⟩
  | .jsle32Reg rd rs disp => ⟨0xDE, rd.num, rs.num, disp, 0⟩
  | .jsle32Imm rd imm disp => ⟨0xD6, rd.num, 0, disp, imm⟩
  | .acmp rd rs off => ⟨0xDB, rd.num, rs.num, off, 0xF1⟩
  | .axchg rd rs off => ⟨0xDB, rd.num, rs.num, off, 0xE1⟩
  | .aadd rd rs off => ⟨0xDB, rd.num, rs.num, off, 0⟩
  | .aor rd rs off => ⟨0xDB, rd.num, rs.num, off, 0x40⟩
  | .aand rd rs off => ⟨0xDB, rd.num, rs.num, off, 0x50⟩
  | .axor rd rs off => ⟨0xDB, rd.num, rs.num, off, 0xA0⟩
  | .afadd rd rs off => ⟨0xDB, rd.num, rs.num, off, 0x01⟩
  | .afor rd rs off => ⟨0xDB, rd.num, rs.num, off, 0x41⟩
  | .afand rd rs off => ⟨0xDB, rd.num, rs.num, off, 0x51⟩
  | .afxor rd rs off => ⟨0xDB, rd.num, rs.num, off, 0xA1⟩
  | .acmp32 rd rs off => ⟨0xC3, rd.num, rs.num, off, 0xF1⟩
  | .axchg32 rd rs off => ⟨0xC3, rd.num, rs.num, off, 0xE1⟩
  | .aadd32 rd rs off => ⟨0xC3, rd.num, rs.num, off, 0⟩
  | .aor32 rd rs off => ⟨0xC3, rd.num, rs.num, off, 0x40⟩
  | .aand32 rd rs off => ⟨0xC3, rd.num, rs.num, off, 0x50⟩
  | .axor32 rd rs off => ⟨0xC3, rd.num, rs.num, off, 0xA0⟩
  | .afadd32 rd rs off => ⟨0xC3, rd.num, rs.num, off, 0x01⟩
  | .afor32 rd rs off => ⟨0xC3, rd.num, rs.num, off, 0x41⟩
  | .afand32 rd rs off => ⟨0xC3, rd.num, rs.num, off, 0x51⟩
  | .afxor32 rd rs off => ⟨0xC3, rd.num, rs.num, off, 0xA1⟩

/-- The fields of the second slot, which only `lddw` has (rule R96). -/
def encodeSecond : Instr → Option Fields
  | .lddw _ imm => some ⟨0, 0, 0, 0, imm.extractLsb' 32 32⟩
  | _ => none

/-- The slots of an instruction, as fields: one, or two for `lddw` (rule R96). -/
def encode (i : Instr) : List Fields := encodeFirst i :: (encodeSecond i).toList

/-- The slots of an instruction as bytes of the program text, in the byte order of the machine (rules R91, R92). -/
def encodeSlots (e : Endian) (i : Instr) : List Slot := (encode i).map fun f => f.slot e

/-! ### Words as the opcode table numbers their bits -/

/-- The two slots an instruction can take, from a number whose low `nbits` bits are the instruction's words W (rule R93)
one after another: every bit above is zero. -/
def slotsOfTableWord (e : Endian) (nbits w : Nat) : List Slot :=
  [(Fields.ofWord (BitVec.ofNat 64 (w % 2 ^ nbits))).slot e,
   (Fields.ofWord (BitVec.ofNat 64 (w % 2 ^ nbits / 2 ^ 64))).slot e]

/-- The instruction the decoder reads from a word numbered as spec/opcode_table.json numbers it, stored in the default
byte order on a machine of the default version (rule R7). -/
def decodeTableWord (nbits w : Nat) : Option Instr :=
  match decodeSlots 4 .little (slotsOfTableWord .little nbits w) with
  | .ok i => some i
  | .error _ => none

end Sys2Proof
end

