-- ==== Sys2Proof/Machine/Arith.lean ====
section
/-! DEFINITION. The arithmetic the instructions share: division and remainder with their zero-divisor results, shifts by
a masked amount, byte reversal. Addition, subtraction, multiplication and the bitwise operations are those of BitVec. -/

namespace Sys2Proof.Machine

/-- Unsigned division, rounding toward zero; a zero divisor gives 0 (rules R147, R148, R187, R188). -/
def divide {n : Nat} (a b : BitVec n) : BitVec n :=
  if b = 0 then 0 else BitVec.ofNat n (a.toNat / b.toNat)

/-- Unsigned remainder; a zero divisor leaves the dividend (rules R149, R150, R189, R190). -/
def remainder {n : Nat} (a b : BitVec n) : BitVec n :=
  if b = 0 then a else BitVec.ofNat n (a.toNat % b.toNat)

/-- 64-bit left shift (rules R157, R158). -/
def lsh64 (a b : Word) : Word := a <<< shiftAmount64 b

/-- 64-bit logical right shift (rules R159, R160). -/
def rsh64 (a b : Word) : Word := a >>> shiftAmount64 b

/-- 64-bit arithmetic right shift (rules R161, R162). -/
def arsh64 (a b : Word) : Word := a.sshiftRight (shiftAmount64 b)

/-- 32-bit left shift (rules R197, R198). -/
def lsh32 (a b : BitVec 32) : BitVec 32 := a <<< shiftAmount32 b

/-- 32-bit logical right shift (rules R199, R200). -/
def rsh32 (a b : BitVec 32) : BitVec 32 := a >>> shiftAmount32 b

/-- 32-bit arithmetic right shift (rules R201, R202). -/
def arsh32 (a b : BitVec 32) : BitVec 32 := a.sshiftRight (shiftAmount32 b)

/-- `bswap16`: byte i of the result is byte 1 - i of the operand (rule R220). -/
def swap16 (v : BitVec 16) : BitVec 16 := v.extractLsb' 0 8 ++ v.extractLsb' 8 8

/-- `bswap32`: byte i of the result is byte 3 - i of the operand (rule R220). -/
def swap32 (v : BitVec 32) : BitVec 32 :=
  v.extractLsb' 0 8 ++ v.extractLsb' 8 8 ++ v.extractLsb' 16 8 ++ v.extractLsb' 24 8

/-- `bswap64`: byte i of the result is byte 7 - i of the operand (rule R220). -/
def swap64 (v : Word) : Word :=
  v.extractLsb' 0 8 ++ v.extractLsb' 8 8 ++ v.extractLsb' 16 8 ++ v.extractLsb' 24 8 ++
    v.extractLsb' 32 8 ++ v.extractLsb' 40 8 ++ v.extractLsb' 48 8 ++ v.extractLsb' 56 8

/-- A value of the machine's byte order `machine` in the byte order `wanted`: kept where the two agree, its bytes
reversed by `swap` where they differ (rules R221 to R226). -/
def convertOrder {n : Nat} (swap : BitVec n → BitVec n) (machine wanted : Endian) (v : BitVec n) : BitVec n :=
  if machine = wanted then v else swap v

end Sys2Proof.Machine
end

