-- ==== Sys2Proof/Machine/Flags.lean ====
section
/-! DEFINITION. The machine has no flags, no condition codes and no predicate registers (rule R28): nothing is computed
for one. What stands here instead are the conditions of the fused compare-and-jump instructions (rules R290, R330), at
the width of the comparison. -/

namespace Sys2Proof.Machine

/-- `==` (rules R293, R294, R331, R332). -/
def condEq {n : Nat} (a b : BitVec n) : Bool := a == b

/-- `!=` (rules R305, R306, R343, R344). -/
def condNe {n : Nat} (a b : BitVec n) : Bool := a != b

/-- `>` on unsigned values (rules R295, R296, R333, R334). -/
def condGt {n : Nat} (a b : BitVec n) : Bool := decide (b.toNat < a.toNat)

/-- `>=` on unsigned values (rules R297, R298, R335, R336). -/
def condGe {n : Nat} (a b : BitVec n) : Bool := decide (b.toNat ≤ a.toNat)

/-- `<` on unsigned values (rules R299, R300, R337, R338). -/
def condLt {n : Nat} (a b : BitVec n) : Bool := decide (a.toNat < b.toNat)

/-- `<=` on unsigned values (rules R301, R302, R339, R340). -/
def condLe {n : Nat} (a b : BitVec n) : Bool := decide (a.toNat ≤ b.toNat)

/-- `&`: some bit is set in both operands (rules R303, R304, R341, R342). -/
def condSet {n : Nat} (a b : BitVec n) : Bool := a &&& b != 0

/-- `s>` on two's-complement values (rules R307, R308, R345, R346). -/
def condSgt {n : Nat} (a b : BitVec n) : Bool := decide (b.toInt < a.toInt)

/-- `s>=` on two's-complement values (rules R309, R310, R347, R348). -/
def condSge {n : Nat} (a b : BitVec n) : Bool := decide (b.toInt ≤ a.toInt)

/-- `s<` on two's-complement values (rules R311, R312, R349, R350). -/
def condSlt {n : Nat} (a b : BitVec n) : Bool := decide (a.toInt < b.toInt)

/-- `s<=` on two's-complement values (rules R313, R314, R351, R352). -/
def condSle {n : Nat} (a b : BitVec n) : Bool := decide (a.toInt ≤ b.toInt)

end Sys2Proof.Machine
end

