-- ==== Sys2Proof/Machine/Relations.lean ====
section
/-! DEFINITION. What the relations `HELPERS` and `ENV` of rule R7 relate: the outcome of each of their free choices. -/

namespace Sys2Proof.Machine

/-- The value of an operator of a relation; a shift looks at the low 6 bits of its amount. -/
def applyRelOp : RelOp → Word → Word → Word
  | .add, a, b => a + b
  | .sub, a, b => a - b
  | .mul, a, b => a * b
  | .div, a, b => a / b
  | .mod, a, b => a % b
  | .and, a, b => a &&& b
  | .or, a, b => a ||| b
  | .xor, a, b => a ^^^ b
  | .shl, a, b => a <<< (b.toNat % 64)
  | .shr, a, b => a >>> (b.toNat % 64)
  | .eq, a, b => if a = b then 1 else 0
  | .ltUnsigned, a, b => if a.toNat < b.toNat then 1 else 0
  | .ltSigned, a, b => if a.toInt < b.toInt then 1 else 0

/-- The value of a term for the free choices `ws` (a choice beyond the list is 0; the relation takes in every list), the
arguments, the memory before and a position in a block. -/
def evalTerm (ws : List Word) (args : List (Option Word)) (mem : Nat → Byte) (j : Nat) : RelTerm → Word
  | .const v => v
  | .arg i absent => (args.getD i none).getD (evalTerm ws args mem j absent)
  | .choice k => ws.getD k 0
  | .index => BitVec.ofNat 64 j
  | .byte a => (mem (evalTerm ws args mem j a).toNat).setWidth 64
  | .op o a b => applyRelOp o (evalTerm ws args mem j a) (evalTerm ws args mem j b)
  | .ite c a b => if evalTerm ws args mem j c = 0 then evalTerm ws args mem j b else evalTerm ws args mem j a

/-- The bytes of one block, all computed from the memory before; addresses wrap modulo 2^64. -/
def blockCells (ws : List Word) (args : List (Option Word)) (mem : Nat → Byte) (b : RelBlock) : List Host.Cell :=
  (List.range (evalTerm ws args mem 0 b.len).toNat).map fun j =>
    ((evalTerm ws args mem 0 b.base + BitVec.ofNat 64 j).toNat, (evalTerm ws args mem j b.byte).setWidth 8)

/-- The outcome of a helper relation for the choices `ws`, the arguments and the memory before (rule R316). -/
def outcomeOf (r : HelperRel) (ws : List Word) (args : List (Option Word)) (mem : Nat → Byte) : HelperOutcome :=
  match r with
  | .terms v bs => ⟨evalTerm ws args mem 0 v, bs.flatMap (blockCells ws args mem)⟩
  | .unknown name => Config.unknownHelper name ws args mem

/-- The bytes that one move of the relation `ENV` writes for the choices `ws` and the memory before (rule R68). -/
def envCells (r : EnvRel) (ws : List Word) (mem : Nat → Byte) : List Host.Cell :=
  match r with
  | .identity => []
  | .terms bs => bs.flatMap (blockCells ws [] mem)
  | .unknown name => Config.unknownEnv name ws mem

end Sys2Proof.Machine
end

