-- ==== Sys2Proof/Machine/Ops.lean ====
section
/-! DEFINITION. The named operations the meanings share: taking a fault, reading and writing registers, the checks and
the performance of a data-memory access, packet access, jumps, calls, returns and helper calls. -/

namespace Sys2Proof.Machine

/-- The numeric code of a fault cause (rule R401). No program can read it. -/
def FaultCause.code : FaultCause → Nat
  | .pcOutOfRange _ => 1
  | .illegalInstruction _ => 2
  | .callDepthExceeded _ => 3
  | .unknownHelper _ => 4
  | .uninitRegisterRead _ => 5
  | .misalignedAccess _ _ => 6
  | .memoryAccessFault _ _ _ => 7

/-- TAKING A FAULT (rules R400, R409, R411): the status becomes `Faulted(cause, pc, info)` and nothing else changes.
There is no return from it (rule R412). -/
def State.raise (s : State) (c : FaultCause) : State := { s with status := .faulted c s.pc }

/-- The end of the run with a result (rules R34, R413). -/
def State.exitWith (s : State) (v : Word) : State := { s with status := .exited v }

/-- What one instruction comes to: it goes through, with an answer and the state it leaves, or it raises a fault. -/
inductive Res (α : Type) where
  | done (a : α) (s : State)
  | raised (c : FaultCause)

/-- One part of an instruction after another: the first fault ends it. -/
def Res.bind {α β : Type} (r : Res α) (k : α → State → Res β) : Res β :=
  match r with
  | .done a s => k a s
  | .raised c => .raised c

/-- The next state of an instruction that began in `s`. A fault is precise: whatever the instruction had done before it
is undone (rules R400, R411). -/
def commit (s : State) (r : Res Unit) : Host.Outcome State Fault Refusal :=
  .next (match r with
    | .done _ s' => s'
    | .raised c => s.raise c)

/-! ### Registers and the program counter -/

/-- The count of drawn free values set to `k` (log 15). -/
def State.withDraws (s : State) (k : Nat) : State := { s with draws := k }

/-- `x[r]` as a source (rules R10, R22): the value; where there is none, a fault or a fresh free value, as `UNINIT`
says. -/
def readReg (r : Reg) (s : State) : Res Word :=
  match s.regs.get r with
  | some v => .done v s
  | none =>
    match s.params.uninit with
    | .fault => .raised (.uninitRegisterRead r)
    | .any => .done (Config.uninitRead s.params.run s.draws) (s.withDraws (s.draws + 1))

/-- `x[r] <- v` (rules R10, R22). -/
def State.setReg (s : State) (r : Reg) (v : Word) : State := { s with regs := s.regs.set r v }

/-- `pc <- pc + k` (rule R27). -/
def State.advance (s : State) (k : Int) : State := { s with pc := s.pc + k }

/-- `pc <- t` (rule R10). -/
def State.goto (s : State) (t : Int) : State := { s with pc := t }

/-- `x[rd] <- v; pc <- pc + 1`, how most instructions end. -/
def finish (rd : Reg) (v : Word) (s : State) : Res Unit := .done () ((s.setReg rd v).advance 1)

/-! ### Arithmetic shapes -/

/-- 64-bit arithmetic, register form: both operands are read, rd first, then rd is written (rules R140, R404). -/
def alu64Reg (f : Word → Word → Word) (rd rs : Reg) (s : State) : Res Unit :=
  (readReg rd s).bind fun a s => (readReg rs s).bind fun b s => finish rd (f a b) s

/-- 64-bit arithmetic, immediate form: the immediate is sign-extended (rule R140). -/
def alu64Imm (f : Word → Word → Word) (rd : Reg) (imm : BitVec 32) (s : State) : Res Unit :=
  (readReg rd s).bind fun a s => finish rd (f a (sext64 imm)) s

/-- One register read and written (rules R163, R203, R220). -/
def alu64Unary (f : Word → Word) (rd : Reg) (s : State) : Res Unit :=
  (readReg rd s).bind fun a s => finish rd (f a) s

/-- A move: rs is read, rd is only written (rules R140, R180). -/
def move (f : Word → Word) (rd rs : Reg) (s : State) : Res Unit :=
  (readReg rs s).bind fun b s => finish rd (f b) s

/-- 32-bit arithmetic, register form: low halves, the result zero-extended (rules R23, R180). -/
def alu32Reg (f : BitVec 32 → BitVec 32 → BitVec 32) (rd rs : Reg) (s : State) : Res Unit :=
  alu64Reg (fun a b => zext64 (f (low32 a) (low32 b))) rd rs s

/-- 32-bit arithmetic, immediate form: the 32 bits of the immediate as they are (rule R180). -/
def alu32Imm (f : BitVec 32 → BitVec 32 → BitVec 32) (rd : Reg) (imm : BitVec 32) (s : State) : Res Unit :=
  (readReg rd s).bind fun a s => finish rd (zext64 (f (low32 a) imm)) s

/-! ### Jumps -/

/-- The end of a jump: the target when taken, the next slot when not (rule R290). The target is not checked here. -/
def branch (taken : Bool) (d : BitVec 16) (s : State) : Res Unit :=
  .done () (s.goto (if taken then jumpTarget s.pc d else s.pc + 1))

/-- An unconditional jump (rules R291, R292). -/
def jumpAlways {n : Nat} (d : BitVec n) (s : State) : Res Unit := .done () (s.goto (jumpTarget s.pc d))

/-- A 64-bit conditional jump, register form (rule R290). -/
def jump64Reg (c : Word → Word → Bool) (rd rs : Reg) (d : BitVec 16) (s : State) : Res Unit :=
  (readReg rd s).bind fun a s => (readReg rs s).bind fun b s => branch (c a b) d s

/-- A 64-bit conditional jump, immediate form: the immediate is sign-extended (rule R290). -/
def jump64Imm (c : Word → Word → Bool) (rd : Reg) (imm : BitVec 32) (d : BitVec 16) (s : State) : Res Unit :=
  (readReg rd s).bind fun a s => branch (c a (sext64 imm)) d s

/-- A 32-bit conditional jump, register form: low halves only (rule R330). -/
def jump32Reg (c : BitVec 32 → BitVec 32 → Bool) (rd rs : Reg) (d : BitVec 16) (s : State) : Res Unit :=
  (readReg rd s).bind fun a s => (readReg rs s).bind fun b s => branch (c (low32 a) (low32 b)) d s

/-- A 32-bit conditional jump, immediate form: the 32 bits of the immediate as they are (rule R330). -/
def jump32Imm (c : BitVec 32 → BitVec 32 → Bool) (rd : Reg) (imm : BitVec 32) (d : BitVec 16) (s : State) : Res Unit :=
  (readReg rd s).bind fun a s => branch (c (low32 a) imm) d s

/-! ### Data memory -/

/-- The n bytes at address a are inside the region (rule R51). -/
def regionCovers (r : Region) (a n : Nat) : Bool :=
  decide (r.base.toNat ≤ a) && decide (a + n ≤ r.base.toNat + r.len)

/-- The region permits the access kind (rule R58). -/
def regionPermits (r : Region) : AccessKind → Bool
  | .read => r.readable
  | .write => r.writable
  | .readwrite => r.readable && r.writable

/-- The n bytes at address a lie inside one single region that permits the access, and do not run past 2^64 (rules R57,
R58). -/
def accessible (rs : List Region) (a n : Nat) (k : AccessKind) : Bool :=
  decide (a + n ≤ 2 ^ 64) && rs.any fun r => regionCovers r a n && regionPermits r k

/-- Each of the n single bytes at address a is accessible on its own, as a split access asks (rule R59; DEDUCED, log
9). -/
def accessibleBytes (rs : List Region) (a : Nat) (k : AccessKind) : Nat → Bool
  | 0 => true
  | n + 1 => accessibleBytes rs a k n && accessible rs (a + n) 1 k

/-- The checks of one data-memory access of n bytes at ea, in the order of rule R56: alignment (R59), then region and
permission (R57, R58). A misaligned atomic faults whatever `ALIGN` is. -/
def checkAccess (p : Params) (ea : Word) (n : Nat) (k : AccessKind) : Option FaultCause :=
  if ea.toNat % n = 0 then
    if accessible p.regions ea.toNat n k then none else some (.memoryAccessFault ea n k)
  else if k ≠ .readwrite ∧ p.align = .split then
    if accessibleBytes p.regions ea.toNat k n then none else some (.memoryAccessFault ea n k)
  else some (.misalignedAccess ea n)

/-- The byte of data memory at an address: the byte listed there, else the free launch byte (rules R31, R40, R451
(b)). -/
def State.byteAt (s : State) (a : Nat) : Byte := (s.mem.get a).getD (Config.initialByte s.params.run a)

/-- The n bytes from address a on, in ascending address order. -/
def State.bytesAt (s : State) (a : Nat) : Nat → List Byte
  | 0 => []
  | n + 1 => s.byteAt a :: s.bytesAt (a + 1) n

/-- The number that bytes spell, the first one least significant. -/
def littleValue : List Byte → Nat
  | [] => 0
  | b :: bs => b.toNat + 256 * littleValue bs

/-- The n bytes that spell a number, the least significant first. -/
def littleBytes : Nat → Nat → List Byte
  | 0, _ => []
  | n + 1, v => BitVec.ofNat 8 v :: littleBytes n (v / 256)

/-- Bytes in ascending address order from least significant first, or back: as they are on a little-endian machine,
reversed on a big-endian one (rules R55, R60). -/
def inOrder (e : Endian) (bs : List Byte) : List Byte :=
  match e with
  | .little => bs
  | .big => bs.reverse

/-- The value of n bytes of memory in the byte order `ENDIAN` (rule R60), without the checks. -/
def State.valueAt (s : State) (a n : Nat) : BitVec (8 * n) :=
  BitVec.ofNat (8 * n) (littleValue (inOrder s.params.endian (s.bytesAt a n)))

/-- The state with an n-byte value stored in the byte order `ENDIAN` (rule R60), without the checks. -/
def State.storeAt (s : State) (a n : Nat) (v : BitVec (8 * n)) : State :=
  { s with mem := s.mem.setBytes a (inOrder s.params.endian (littleBytes n v.toNat)) }

/-- The address lies in some region: the bytes that data memory maps (rules R35, R51). -/
def isMapped (p : Params) (a : Nat) : Bool := decide (a < 2 ^ 64) && p.regions.any fun r => regionCovers r a 1

/-- The address lies in a region that the platform declares shared (rule R68). -/
def isShared (p : Params) (a : Nat) : Bool :=
  decide (a < 2 ^ 64) && p.regions.any fun r => regionCovers r a 1 && r.shared

/-- One move of `ENV` with the free choices `ws`: the bytes the relation writes, on shared regions only (rules R68,
R416). -/
def State.envMove (s : State) (ws : List Word) : State :=
  { s with mem := s.mem.setCells ((envCells s.params.env ws s.byteAt).filter fun c => isShared s.params c.1) }

/-- The draw of `ENV` before a step, and the state once it is drawn: the next one fixed in advance, else the free value
(rules R41, R451 (d), log 6). -/
def drawEnv (s : State) : List (List Word) × State :=
  match s.envDraws with
  | d :: rest => (d, { s with envDraws := rest })
  | [] => (Config.envDraw s.params.run s.draws, s.withDraws (s.draws + 1))

/-- What `ENV` does between two steps: nothing under the default, the identity; else the drawn moves, any number of them,
in turn (rules R68, R69, R410, R416, log 6). -/
def State.envStep (s : State) : State :=
  if s.params.env = .identity then s else (drawEnv s).1.foldl State.envMove (drawEnv s).2

/-- `MemRead(ea, n)` (rules R11, R56, R59, R60). A split access reads the same bytes one by one in ascending address order;
no `ENV` move falls between them, since `ENV` acts between steps only (rules R69, R410, R416, log 11). -/
def memRead (ea : Word) (n : Nat) (s : State) : Res (BitVec (8 * n)) :=
  match checkAccess s.params ea n .read with
  | some c => .raised c
  | none => .done (s.valueAt ea.toNat n) s

/-- `MemWrite(ea, n, v)` (rules R11, R56, R59, R60), aligned or split: the bytes are written in ascending address order
within the step (log 11). -/
def memWrite (ea : Word) (n : Nat) (v : BitVec (8 * n)) (s : State) : Res Unit :=
  match checkAccess s.params ea n .write with
  | some c => .raised c
  | none => .done () (s.storeAt ea.toNat n v)

/-- `AtomicRMW(ea, n, f)`: one indivisible read, `f`, write; the answer is the old value (rules R11, R66). -/
def atomicRMW (ea : Word) (n : Nat) (f : BitVec (8 * n) → BitVec (8 * n)) (s : State) : Res (BitVec (8 * n)) :=
  match checkAccess s.params ea n .readwrite with
  | some c => .raised c
  | none => .done (s.valueAt ea.toNat n) (s.storeAt ea.toNat n (f (s.valueAt ea.toNat n)))

/-- A load of n bytes, widened by `widen` (rule R260). -/
def load (n : Nat) (widen : BitVec (8 * n) → Word) (rd rs : Reg) (off : BitVec 16) (s : State) : Res Unit :=
  (readReg rs s).bind fun b s => (memRead (effectiveAddress b off) n s).bind fun v s => finish rd (widen v) s

/-- A register store of the low n bytes of rs; the base rd is read first (rules R260, R404). -/
def storeReg (n : Nat) (rd rs : Reg) (off : BitVec 16) (s : State) : Res Unit :=
  (readReg rd s).bind fun b s => (readReg rs s).bind fun v s =>
    (memWrite (effectiveAddress b off) n (v.setWidth (8 * n)) s).bind fun _ s => .done () (s.advance 1)

/-- An immediate store of the low n bytes of the sign-extended immediate (rules R260, R273 to R276). -/
def storeImm (n : Nat) (rd : Reg) (off : BitVec 16) (imm : BitVec 32) (s : State) : Res Unit :=
  (readReg rd s).bind fun b s =>
    (memWrite (effectiveAddress b off) n ((sext64 imm).setWidth (8 * n)) s).bind fun _ s => .done () (s.advance 1)

/-- An atomic that returns nothing (rules R360, R363 to R366, R383 to R386). -/
def atomicUpdate (n : Nat) (f : BitVec (8 * n) → BitVec (8 * n) → BitVec (8 * n)) (rd rs : Reg) (off : BitVec 16)
    (s : State) : Res Unit :=
  (readReg rd s).bind fun b s => (readReg rs s).bind fun v s =>
    (atomicRMW (effectiveAddress b off) n (fun m => f m (v.setWidth (8 * n))) s).bind fun _ s => .done () (s.advance 1)

/-- An atomic that writes the old memory value to rs, zero-extended (rules R360, R362, R367 to R370, R380, R382, R387 to
R390). -/
def atomicFetch (n : Nat) (f : BitVec (8 * n) → BitVec (8 * n) → BitVec (8 * n)) (rd rs : Reg) (off : BitVec 16)
    (s : State) : Res Unit :=
  (readReg rd s).bind fun b s => (readReg rs s).bind fun v s =>
    (atomicRMW (effectiveAddress b off) n (fun m => f m (v.setWidth (8 * n))) s).bind fun old s =>
      finish rs (zext64 old) s

/-- Compare-and-swap: rd, rs and r0 are read in this order; memory is replaced on a match; the old memory value goes to
r0 in both cases, zero-extended (rules R361, R381, R404). -/
def atomicCompare (n : Nat) (rd rs : Reg) (off : BitVec 16) (s : State) : Res Unit :=
  (readReg rd s).bind fun b s => (readReg rs s).bind fun v s => (readReg .r0 s).bind fun e s =>
    (atomicRMW (effectiveAddress b off) n
      (fun m => if m = e.setWidth (8 * n) then v.setWidth (8 * n) else m) s).bind fun old s =>
      finish .r0 (zext64 old) s

/-! ### The packet -/

/-- `PACKET[k] ++ ... ++ PACKET[k+n-1]`, the first byte most significant, whatever `ENDIAN` is (rules R77, R245 (3)). -/
def packetValue (packet : List Byte) (k n : Nat) : Word :=
  BitVec.ofNat 64 (littleValue ((packet.drop k).take n).reverse)

/-- What a packet load of the value v leaves: v in r0, r1 to r5 without value (rule R245 (3), (5)). -/
def State.packetLoaded (s : State) (v : Word) : State := { s with regs := (s.regs.set .r0 v).dropArgs }

/-- A packet load of n bytes at index k by a program whose r6 holds c: the context check, the end of the run with result
0 when the index is outside the packet, else the load; r1 to r5 lose their values (rule R245). -/
def packetAccess (n : Nat) (c : Word) (k : Int) (s : State) : Res Unit :=
  if c ≠ s.params.ctx then .raised (.memoryAccessFault c n .read)
  else if k < 0 ∨ (s.params.packet.length : Int) < k + n then .done () (s.exitWith 0)
  else .done () ((s.packetLoaded (packetValue s.params.packet k.toNat n)).advance 1)

/-- An absolute packet load (rules R245 to R248). -/
def packetAbsolute (n : Nat) (imm : BitVec 32) (s : State) : Res Unit :=
  (readReg .r6 s).bind fun c s => packetAccess n c (absoluteIndex imm) s

/-- An indirect packet load: r6 is read before rs (rules R245, R249 to R251, R404). -/
def packetIndirect (n : Nat) (rs : Reg) (imm : BitVec 32) (s : State) : Res Unit :=
  (readReg .r6 s).bind fun c s => (readReg rs s).bind fun x s => packetAccess n c (indirectIndex x imm) s

/-! ### Calls, returns, the environment -/

/-- The record a local call saves: where to return and the saved registers as they are (rules R32, R315). -/
def State.callFrame (s : State) : Frame :=
  { ret := s.pc + 1, s6 := s.regs.r6, s7 := s.regs.r7, s8 := s.regs.r8, s9 := s.regs.r9, s10 := s.regs.r10 }

/-- The state at the first instruction of a local function (rule R315). -/
def State.enterCall (s : State) (d : BitVec 32) : State :=
  { s with
    frames := s.frames ++ [s.callFrame]
    regs := s.regs.enter s.params.frameStride
    pc := jumpTarget s.pc d }

/-- A local call (rule R315). -/
def callLocal (d : BitVec 32) (s : State) : Res Unit :=
  if s.params.maxCallDepth ≤ s.frames.length + 1 then .raised (.callDepthExceeded (s.frames.length + 1))
  else .done () (s.enterCall d)

/-- The registers after a return to the frame `f`: r6 to r10 restored, r1 to r5 without value, r0 kept (rule R317). -/
def RegFile.restore (g : RegFile) (f : Frame) : RegFile :=
  { g.dropArgs with r6 := f.s6, r7 := f.s7, r8 := f.s8, r9 := f.s9, r10 := f.s10 }

/-- The state after a return to the newest frame `f` (rule R317). -/
def State.returnTo (s : State) (f : Frame) : State :=
  { s with frames := s.frames.dropLast, regs := s.regs.restore f, pc := f.ret }

/-- `exit`: the end of the program at depth 1, the return of a local function deeper; r0 is read in both cases (rule
R317). -/
def exitOrReturn (s : State) : Res Unit :=
  (readReg .r0 s).bind fun v s =>
    match s.frames.getLast? with
    | none => .done () (s.exitWith v)
    | some f => .done () (s.returnTo f)

/-- The free choices of the helper call at hand, and the state once they are drawn: the next ones fixed in advance, else
the free value (rules R41, R316, R451 (c), log 5). -/
def drawHelper (s : State) : List Word × State :=
  match s.helperDraws with
  | ws :: rest => (ws, { s with helperDraws := rest })
  | [] => (Config.helperDraw s.params.run s.draws, s.withDraws (s.draws + 1))

/-- What a helper call leaves for the outcome `o`: bytes of mapped addresses changed, the result in r0, r1 to r5 without
value, the next slot (rule R316). -/
def State.afterHelper (s : State) (o : HelperOutcome) : State :=
  { s with
    mem := s.mem.setCells (o.writes.filter fun c => isMapped s.params c.1)
    regs := (s.regs.set .r0 o.result).dropArgs
    pc := s.pc + 1 }

/-- A helper call (rule R316): the relation `HELPERS[id]` on r1 to r5 as they are and the memory before, with the drawn
choices. No register is read in the sense of rule R22. -/
def callHelper (id : BitVec 32) (s : State) : Res Unit :=
  match s.params.helpers.lookup id with
  | some r => .done () ((drawHelper s).2.afterHelper (outcomeOf r (drawHelper s).1 s.regs.args s.byteAt))
  | none => .raised (.unknownHelper id)

end Sys2Proof.Machine
end

