-- ==== Sys2Proof/Machine/Alu32.lean ====
section
/-! DEFINITION. The 32-bit arithmetic, logic, shift and move instructions: low halves, results zero-extended (rules R180 to R209). One meaning per instruction. -/

namespace Sys2Proof.Machine

/-- `add32 rd, rs` (rule R181). -/
def execAdd32Reg (rd rs : Reg) (s : State) : Host.Outcome State Fault Refusal :=
  commit s (alu32Reg (fun a b => a + b) rd rs s)

/-- `add32 rd, imm32` (rule R182). -/
def execAdd32Imm (rd : Reg) (imm : BitVec 32) (s : State) : Host.Outcome State Fault Refusal :=
  commit s (alu32Imm (fun a b => a + b) rd imm s)

/-- `sub32 rd, rs` (rule R183). -/
def execSub32Reg (rd rs : Reg) (s : State) : Host.Outcome State Fault Refusal :=
  commit s (alu32Reg (fun a b => a - b) rd rs s)

/-- `sub32 rd, imm32` (rule R184). -/
def execSub32Imm (rd : Reg) (imm : BitVec 32) (s : State) : Host.Outcome State Fault Refusal :=
  commit s (alu32Imm (fun a b => a - b) rd imm s)

/-- `mul32 rd, rs` (rule R185). -/
def execMul32Reg (rd rs : Reg) (s : State) : Host.Outcome State Fault Refusal :=
  commit s (alu32Reg (fun a b => a * b) rd rs s)

/-- `mul32 rd, imm32` (rule R186). -/
def execMul32Imm (rd : Reg) (imm : BitVec 32) (s : State) : Host.Outcome State Fault Refusal :=
  commit s (alu32Imm (fun a b => a * b) rd imm s)

/-- `div32 rd, rs` (rule R187). -/
def execDiv32Reg (rd rs : Reg) (s : State) : Host.Outcome State Fault Refusal :=
  commit s (alu32Reg divide rd rs s)

/-- `div32 rd, imm32` (rule R188). -/
def execDiv32Imm (rd : Reg) (imm : BitVec 32) (s : State) : Host.Outcome State Fault Refusal :=
  commit s (alu32Imm divide rd imm s)

/-- `mod32 rd, rs` (rule R189). -/
def execMod32Reg (rd rs : Reg) (s : State) : Host.Outcome State Fault Refusal :=
  commit s (alu32Reg remainder rd rs s)

/-- `mod32 rd, imm32` (rule R190). -/
def execMod32Imm (rd : Reg) (imm : BitVec 32) (s : State) : Host.Outcome State Fault Refusal :=
  commit s (alu32Imm remainder rd imm s)

/-- `and32 rd, rs` (rule R191). -/
def execAnd32Reg (rd rs : Reg) (s : State) : Host.Outcome State Fault Refusal :=
  commit s (alu32Reg (fun a b => a &&& b) rd rs s)

/-- `and32 rd, imm32` (rule R192). -/
def execAnd32Imm (rd : Reg) (imm : BitVec 32) (s : State) : Host.Outcome State Fault Refusal :=
  commit s (alu32Imm (fun a b => a &&& b) rd imm s)

/-- `or32 rd, rs` (rule R193). -/
def execOr32Reg (rd rs : Reg) (s : State) : Host.Outcome State Fault Refusal :=
  commit s (alu32Reg (fun a b => a ||| b) rd rs s)

/-- `or32 rd, imm32` (rule R194). -/
def execOr32Imm (rd : Reg) (imm : BitVec 32) (s : State) : Host.Outcome State Fault Refusal :=
  commit s (alu32Imm (fun a b => a ||| b) rd imm s)

/-- `xor32 rd, rs` (rule R195). -/
def execXor32Reg (rd rs : Reg) (s : State) : Host.Outcome State Fault Refusal :=
  commit s (alu32Reg (fun a b => a ^^^ b) rd rs s)

/-- `xor32 rd, imm32` (rule R196). -/
def execXor32Imm (rd : Reg) (imm : BitVec 32) (s : State) : Host.Outcome State Fault Refusal :=
  commit s (alu32Imm (fun a b => a ^^^ b) rd imm s)

/-- `lsh32 rd, rs` (rule R197). -/
def execLsh32Reg (rd rs : Reg) (s : State) : Host.Outcome State Fault Refusal :=
  commit s (alu32Reg lsh32 rd rs s)

/-- `lsh32 rd, imm32` (rule R198). -/
def execLsh32Imm (rd : Reg) (imm : BitVec 32) (s : State) : Host.Outcome State Fault Refusal :=
  commit s (alu32Imm lsh32 rd imm s)

/-- `rsh32 rd, rs` (rule R199). -/
def execRsh32Reg (rd rs : Reg) (s : State) : Host.Outcome State Fault Refusal :=
  commit s (alu32Reg rsh32 rd rs s)

/-- `rsh32 rd, imm32` (rule R200). -/
def execRsh32Imm (rd : Reg) (imm : BitVec 32) (s : State) : Host.Outcome State Fault Refusal :=
  commit s (alu32Imm rsh32 rd imm s)

/-- `arsh32 rd, rs` (rule R201). -/
def execArsh32Reg (rd rs : Reg) (s : State) : Host.Outcome State Fault Refusal :=
  commit s (alu32Reg arsh32 rd rs s)

/-- `arsh32 rd, imm32` (rule R202). -/
def execArsh32Imm (rd : Reg) (imm : BitVec 32) (s : State) : Host.Outcome State Fault Refusal :=
  commit s (alu32Imm arsh32 rd imm s)

/-- `neg32 rd` (rule R203). -/
def execNeg32 (rd : Reg) (s : State) : Host.Outcome State Fault Refusal :=
  commit s (alu64Unary (fun v => zext64 (-low32 v)) rd s)

/-- `mov32 rd, rs` (rule R204). -/
def execMov32Reg (rd rs : Reg) (s : State) : Host.Outcome State Fault Refusal :=
  commit s (move (fun v => zext64 (low32 v)) rd rs s)

/-- `mov32 rd, imm32` (rule R205). -/
def execMov32Imm (rd : Reg) (imm : BitVec 32) (s : State) : Host.Outcome State Fault Refusal :=
  commit s (finish rd (zext64 imm) s)

/-- `mov32s rd, rs, 8` (rule R206). -/
def execMov32s8 (rd rs : Reg) (s : State) : Host.Outcome State Fault Refusal :=
  commit s (move (fun v => zext64 ((v.setWidth 8).signExtend 32)) rd rs s)

/-- `mov32s rd, rs, 16` (rule R207). -/
def execMov32s16 (rd rs : Reg) (s : State) : Host.Outcome State Fault Refusal :=
  commit s (move (fun v => zext64 ((v.setWidth 16).signExtend 32)) rd rs s)

/-- `mov32s rd, rs, 32` (rule R208). -/
def execMov32s32 (rd rs : Reg) (s : State) : Host.Outcome State Fault Refusal :=
  commit s (move (fun v => zext64 ((v.setWidth 32).signExtend 32)) rd rs s)

end Sys2Proof.Machine
end

