-- ==== Sys2Proof/Machine/Alu64.lean ====
section
/-! DEFINITION. The 64-bit arithmetic, logic, shift and move instructions (rules R140 to R169). One meaning per instruction. -/

namespace Sys2Proof.Machine

/-- `add rd, rs` (rule R141). -/
def execAddReg (rd rs : Reg) (s : State) : Host.Outcome State Fault Refusal :=
  commit s (alu64Reg (fun a b => a + b) rd rs s)

/-- `add rd, imm32` (rule R142). -/
def execAddImm (rd : Reg) (imm : BitVec 32) (s : State) : Host.Outcome State Fault Refusal :=
  commit s (alu64Imm (fun a b => a + b) rd imm s)

/-- `sub rd, rs` (rule R143). -/
def execSubReg (rd rs : Reg) (s : State) : Host.Outcome State Fault Refusal :=
  commit s (alu64Reg (fun a b => a - b) rd rs s)

/-- `sub rd, imm32` (rule R144). -/
def execSubImm (rd : Reg) (imm : BitVec 32) (s : State) : Host.Outcome State Fault Refusal :=
  commit s (alu64Imm (fun a b => a - b) rd imm s)

/-- `mul rd, rs` (rule R145). -/
def execMulReg (rd rs : Reg) (s : State) : Host.Outcome State Fault Refusal :=
  commit s (alu64Reg (fun a b => a * b) rd rs s)

/-- `mul rd, imm32` (rule R146). -/
def execMulImm (rd : Reg) (imm : BitVec 32) (s : State) : Host.Outcome State Fault Refusal :=
  commit s (alu64Imm (fun a b => a * b) rd imm s)

/-- `div rd, rs` (rule R147). -/
def execDivReg (rd rs : Reg) (s : State) : Host.Outcome State Fault Refusal :=
  commit s (alu64Reg divide rd rs s)

/-- `div rd, imm32` (rule R148). -/
def execDivImm (rd : Reg) (imm : BitVec 32) (s : State) : Host.Outcome State Fault Refusal :=
  commit s (alu64Imm divide rd imm s)

/-- `mod rd, rs` (rule R149). -/
def execModReg (rd rs : Reg) (s : State) : Host.Outcome State Fault Refusal :=
  commit s (alu64Reg remainder rd rs s)

/-- `mod rd, imm32` (rule R150). -/
def execModImm (rd : Reg) (imm : BitVec 32) (s : State) : Host.Outcome State Fault Refusal :=
  commit s (alu64Imm remainder rd imm s)

/-- `and rd, rs` (rule R151). -/
def execAndReg (rd rs : Reg) (s : State) : Host.Outcome State Fault Refusal :=
  commit s (alu64Reg (fun a b => a &&& b) rd rs s)

/-- `and rd, imm32` (rule R152). -/
def execAndImm (rd : Reg) (imm : BitVec 32) (s : State) : Host.Outcome State Fault Refusal :=
  commit s (alu64Imm (fun a b => a &&& b) rd imm s)

/-- `or rd, rs` (rule R153). -/
def execOrReg (rd rs : Reg) (s : State) : Host.Outcome State Fault Refusal :=
  commit s (alu64Reg (fun a b => a ||| b) rd rs s)

/-- `or rd, imm32` (rule R154). -/
def execOrImm (rd : Reg) (imm : BitVec 32) (s : State) : Host.Outcome State Fault Refusal :=
  commit s (alu64Imm (fun a b => a ||| b) rd imm s)

/-- `xor rd, rs` (rule R155). -/
def execXorReg (rd rs : Reg) (s : State) : Host.Outcome State Fault Refusal :=
  commit s (alu64Reg (fun a b => a ^^^ b) rd rs s)

/-- `xor rd, imm32` (rule R156). -/
def execXorImm (rd : Reg) (imm : BitVec 32) (s : State) : Host.Outcome State Fault Refusal :=
  commit s (alu64Imm (fun a b => a ^^^ b) rd imm s)

/-- `lsh rd, rs` (rule R157). -/
def execLshReg (rd rs : Reg) (s : State) : Host.Outcome State Fault Refusal :=
  commit s (alu64Reg lsh64 rd rs s)

/-- `lsh rd, imm32` (rule R158). -/
def execLshImm (rd : Reg) (imm : BitVec 32) (s : State) : Host.Outcome State Fault Refusal :=
  commit s (alu64Imm lsh64 rd imm s)

/-- `rsh rd, rs` (rule R159). -/
def execRshReg (rd rs : Reg) (s : State) : Host.Outcome State Fault Refusal :=
  commit s (alu64Reg rsh64 rd rs s)

/-- `rsh rd, imm32` (rule R160). -/
def execRshImm (rd : Reg) (imm : BitVec 32) (s : State) : Host.Outcome State Fault Refusal :=
  commit s (alu64Imm rsh64 rd imm s)

/-- `arsh rd, rs` (rule R161). -/
def execArshReg (rd rs : Reg) (s : State) : Host.Outcome State Fault Refusal :=
  commit s (alu64Reg arsh64 rd rs s)

/-- `arsh rd, imm32` (rule R162). -/
def execArshImm (rd : Reg) (imm : BitVec 32) (s : State) : Host.Outcome State Fault Refusal :=
  commit s (alu64Imm arsh64 rd imm s)

/-- `neg rd` (rule R163). -/
def execNeg (rd : Reg) (s : State) : Host.Outcome State Fault Refusal :=
  commit s (alu64Unary (fun v => -v) rd s)

/-- `mov rd, rs` (rule R164). -/
def execMovReg (rd rs : Reg) (s : State) : Host.Outcome State Fault Refusal :=
  commit s (move (fun v => v) rd rs s)

/-- `mov rd, imm32` (rule R165). -/
def execMovImm (rd : Reg) (imm : BitVec 32) (s : State) : Host.Outcome State Fault Refusal :=
  commit s (finish rd (sext64 imm) s)

/-- `movs rd, rs, 8` (rule R166). -/
def execMovs8 (rd rs : Reg) (s : State) : Host.Outcome State Fault Refusal :=
  commit s (move (fun v => sext64 (v.setWidth 8)) rd rs s)

/-- `movs rd, rs, 16` (rule R167). -/
def execMovs16 (rd rs : Reg) (s : State) : Host.Outcome State Fault Refusal :=
  commit s (move (fun v => sext64 (v.setWidth 16)) rd rs s)

/-- `movs rd, rs, 32` (rule R168). -/
def execMovs32 (rd rs : Reg) (s : State) : Host.Outcome State Fault Refusal :=
  commit s (move (fun v => sext64 (v.setWidth 32)) rd rs s)

end Sys2Proof.Machine
end

