-- ==== Sys2Proof/Machine/Atomic32.lean ====
section
/-! DEFINITION. The 32-bit atomics: low half of the operand, old values zero-extended (rules R380 to R391). One meaning per instruction. -/

namespace Sys2Proof.Machine

/-- `acmp32 [rd + offset16], rs` (rule R381). -/
def execAcmp32 (rd rs : Reg) (off : BitVec 16) (s : State) : Host.Outcome State Fault Refusal :=
  commit s (atomicCompare 4 rd rs off s)

/-- `axchg32 [rd + offset16], rs` (rule R382). -/
def execAxchg32 (rd rs : Reg) (off : BitVec 16) (s : State) : Host.Outcome State Fault Refusal :=
  commit s (atomicFetch 4 (fun _ v => v) rd rs off s)

/-- `aadd32 [rd + offset16], rs` (rule R383). -/
def execAadd32 (rd rs : Reg) (off : BitVec 16) (s : State) : Host.Outcome State Fault Refusal :=
  commit s (atomicUpdate 4 (fun m v => m + v) rd rs off s)

/-- `aor32 [rd + offset16], rs` (rule R384). -/
def execAor32 (rd rs : Reg) (off : BitVec 16) (s : State) : Host.Outcome State Fault Refusal :=
  commit s (atomicUpdate 4 (fun m v => m ||| v) rd rs off s)

/-- `aand32 [rd + offset16], rs` (rule R385). -/
def execAand32 (rd rs : Reg) (off : BitVec 16) (s : State) : Host.Outcome State Fault Refusal :=
  commit s (atomicUpdate 4 (fun m v => m &&& v) rd rs off s)

/-- `axor32 [rd + offset16], rs` (rule R386). -/
def execAxor32 (rd rs : Reg) (off : BitVec 16) (s : State) : Host.Outcome State Fault Refusal :=
  commit s (atomicUpdate 4 (fun m v => m ^^^ v) rd rs off s)

/-- `afadd32 [rd + offset16], rs` (rule R387). -/
def execAfadd32 (rd rs : Reg) (off : BitVec 16) (s : State) : Host.Outcome State Fault Refusal :=
  commit s (atomicFetch 4 (fun m v => m + v) rd rs off s)

/-- `afor32 [rd + offset16], rs` (rule R388). -/
def execAfor32 (rd rs : Reg) (off : BitVec 16) (s : State) : Host.Outcome State Fault Refusal :=
  commit s (atomicFetch 4 (fun m v => m ||| v) rd rs off s)

/-- `afand32 [rd + offset16], rs` (rule R389). -/
def execAfand32 (rd rs : Reg) (off : BitVec 16) (s : State) : Host.Outcome State Fault Refusal :=
  commit s (atomicFetch 4 (fun m v => m &&& v) rd rs off s)

/-- `afxor32 [rd + offset16], rs` (rule R390). -/
def execAfxor32 (rd rs : Reg) (off : BitVec 16) (s : State) : Host.Outcome State Fault Refusal :=
  commit s (atomicFetch 4 (fun m v => m ^^^ v) rd rs off s)

end Sys2Proof.Machine
end

