-- ==== Sys2Proof/Machine/Atomic64.lean ====
section
/-! DEFINITION. The 64-bit atomics (rules R360 to R372). One meaning per instruction. -/

namespace Sys2Proof.Machine

/-- `acmp [rd + offset16], rs` (rule R361). -/
def execAcmp (rd rs : Reg) (off : BitVec 16) (s : State) : Host.Outcome State Fault Refusal :=
  commit s (atomicCompare 8 rd rs off s)

/-- `axchg [rd + offset16], rs` (rule R362). -/
def execAxchg (rd rs : Reg) (off : BitVec 16) (s : State) : Host.Outcome State Fault Refusal :=
  commit s (atomicFetch 8 (fun _ v => v) rd rs off s)

/-- `aadd [rd + offset16], rs` (rule R363). -/
def execAadd (rd rs : Reg) (off : BitVec 16) (s : State) : Host.Outcome State Fault Refusal :=
  commit s (atomicUpdate 8 (fun m v => m + v) rd rs off s)

/-- `aor [rd + offset16], rs` (rule R364). -/
def execAor (rd rs : Reg) (off : BitVec 16) (s : State) : Host.Outcome State Fault Refusal :=
  commit s (atomicUpdate 8 (fun m v => m ||| v) rd rs off s)

/-- `aand [rd + offset16], rs` (rule R365). -/
def execAand (rd rs : Reg) (off : BitVec 16) (s : State) : Host.Outcome State Fault Refusal :=
  commit s (atomicUpdate 8 (fun m v => m &&& v) rd rs off s)

/-- `axor [rd + offset16], rs` (rule R366). -/
def execAxor (rd rs : Reg) (off : BitVec 16) (s : State) : Host.Outcome State Fault Refusal :=
  commit s (atomicUpdate 8 (fun m v => m ^^^ v) rd rs off s)

/-- `afadd [rd + offset16], rs` (rule R367). -/
def execAfadd (rd rs : Reg) (off : BitVec 16) (s : State) : Host.Outcome State Fault Refusal :=
  commit s (atomicFetch 8 (fun m v => m + v) rd rs off s)

/-- `afor [rd + offset16], rs` (rule R368). -/
def execAfor (rd rs : Reg) (off : BitVec 16) (s : State) : Host.Outcome State Fault Refusal :=
  commit s (atomicFetch 8 (fun m v => m ||| v) rd rs off s)

/-- `afand [rd + offset16], rs` (rule R369). -/
def execAfand (rd rs : Reg) (off : BitVec 16) (s : State) : Host.Outcome State Fault Refusal :=
  commit s (atomicFetch 8 (fun m v => m &&& v) rd rs off s)

/-- `afxor [rd + offset16], rs` (rule R370). -/
def execAfxor (rd rs : Reg) (off : BitVec 16) (s : State) : Host.Outcome State Fault Refusal :=
  commit s (atomicFetch 8 (fun m v => m ^^^ v) rd rs off s)

end Sys2Proof.Machine
end

