-- ==== Sys2Proof/Machine/ByteOrder.lean ====
section
/-! DEFINITION. Byte-order conversion and byte swap (rules R220 to R230). One meaning per instruction. -/

namespace Sys2Proof.Machine

/-- `endle rd, 16` (rule R221). -/
def execEndle16 (rd : Reg) (s : State) : Host.Outcome State Fault Refusal :=
  commit s (alu64Unary (fun v => zext64 (convertOrder swap16 s.params.endian .little (v.setWidth 16))) rd s)

/-- `endle rd, 32` (rule R222). -/
def execEndle32 (rd : Reg) (s : State) : Host.Outcome State Fault Refusal :=
  commit s (alu64Unary (fun v => zext64 (convertOrder swap32 s.params.endian .little (v.setWidth 32))) rd s)

/-- `endle rd, 64` (rule R223). -/
def execEndle64 (rd : Reg) (s : State) : Host.Outcome State Fault Refusal :=
  commit s (alu64Unary (fun v => zext64 (convertOrder swap64 s.params.endian .little (v.setWidth 64))) rd s)

/-- `endbe rd, 16` (rule R224). -/
def execEndbe16 (rd : Reg) (s : State) : Host.Outcome State Fault Refusal :=
  commit s (alu64Unary (fun v => zext64 (convertOrder swap16 s.params.endian .big (v.setWidth 16))) rd s)

/-- `endbe rd, 32` (rule R225). -/
def execEndbe32 (rd : Reg) (s : State) : Host.Outcome State Fault Refusal :=
  commit s (alu64Unary (fun v => zext64 (convertOrder swap32 s.params.endian .big (v.setWidth 32))) rd s)

/-- `endbe rd, 64` (rule R226). -/
def execEndbe64 (rd : Reg) (s : State) : Host.Outcome State Fault Refusal :=
  commit s (alu64Unary (fun v => zext64 (convertOrder swap64 s.params.endian .big (v.setWidth 64))) rd s)

/-- `bswap rd, 16` (rule R227). -/
def execBswap16 (rd : Reg) (s : State) : Host.Outcome State Fault Refusal :=
  commit s (alu64Unary (fun v => zext64 (swap16 (v.setWidth 16))) rd s)

/-- `bswap rd, 32` (rule R228). -/
def execBswap32 (rd : Reg) (s : State) : Host.Outcome State Fault Refusal :=
  commit s (alu64Unary (fun v => zext64 (swap32 (v.setWidth 32))) rd s)

/-- `bswap rd, 64` (rule R229). -/
def execBswap64 (rd : Reg) (s : State) : Host.Outcome State Fault Refusal :=
  commit s (alu64Unary (fun v => zext64 (swap64 (v.setWidth 64))) rd s)

end Sys2Proof.Machine
end

