-- ==== Sys2Proof/Machine/Call.lean ====
section
/-! DEFINITION. Local calls, helper calls and exit (rules R315 to R318). One meaning per instruction. -/

namespace Sys2Proof.Machine

/-- `call disp32` (rule R315). -/
def execCallLocal (disp : BitVec 32) (s : State) : Host.Outcome State Fault Refusal :=
  commit s (Sys2Proof.Machine.callLocal disp s)

/-- `call imm32` (rule R316). -/
def execCallHelper (id : BitVec 32) (s : State) : Host.Outcome State Fault Refusal :=
  commit s (Sys2Proof.Machine.callHelper id s)

/-- `exit` (rule R317). -/
def execExit (s : State) : Host.Outcome State Fault Refusal :=
  commit s (exitOrReturn s)

end Sys2Proof.Machine
end

