-- ==== Sys2Proof/Machine/Jump.lean ====
section
/-! DEFINITION. The unconditional and the 64-bit conditional jumps (rules R290 to R314). One meaning per instruction. -/

namespace Sys2Proof.Machine

/-- `ja disp16` (rule R291). -/
def execJa (disp : BitVec 16) (s : State) : Host.Outcome State Fault Refusal :=
  commit s (jumpAlways disp s)

/-- `jal disp32` (rule R292). -/
def execJal (disp : BitVec 32) (s : State) : Host.Outcome State Fault Refusal :=
  commit s (jumpAlways disp s)

/-- `jeq rd, rs, disp16` (rule R293). -/
def execJeqReg (rd rs : Reg) (disp : BitVec 16) (s : State) : Host.Outcome State Fault Refusal :=
  commit s (jump64Reg condEq rd rs disp s)

/-- `jeq rd, imm32, disp16` (rule R294). -/
def execJeqImm (rd : Reg) (imm : BitVec 32) (disp : BitVec 16) (s : State) : Host.Outcome State Fault Refusal :=
  commit s (jump64Imm condEq rd imm disp s)

/-- `jgt rd, rs, disp16` (rule R295). -/
def execJgtReg (rd rs : Reg) (disp : BitVec 16) (s : State) : Host.Outcome State Fault Refusal :=
  commit s (jump64Reg condGt rd rs disp s)

/-- `jgt rd, imm32, disp16` (rule R296). -/
def execJgtImm (rd : Reg) (imm : BitVec 32) (disp : BitVec 16) (s : State) : Host.Outcome State Fault Refusal :=
  commit s (jump64Imm condGt rd imm disp s)

/-- `jge rd, rs, disp16` (rule R297). -/
def execJgeReg (rd rs : Reg) (disp : BitVec 16) (s : State) : Host.Outcome State Fault Refusal :=
  commit s (jump64Reg condGe rd rs disp s)

/-- `jge rd, imm32, disp16` (rule R298). -/
def execJgeImm (rd : Reg) (imm : BitVec 32) (disp : BitVec 16) (s : State) : Host.Outcome State Fault Refusal :=
  commit s (jump64Imm condGe rd imm disp s)

/-- `jlt rd, rs, disp16` (rule R299). -/
def execJltReg (rd rs : Reg) (disp : BitVec 16) (s : State) : Host.Outcome State Fault Refusal :=
  commit s (jump64Reg condLt rd rs disp s)

/-- `jlt rd, imm32, disp16` (rule R300). -/
def execJltImm (rd : Reg) (imm : BitVec 32) (disp : BitVec 16) (s : State) : Host.Outcome State Fault Refusal :=
  commit s (jump64Imm condLt rd imm disp s)

/-- `jle rd, rs, disp16` (rule R301). -/
def execJleReg (rd rs : Reg) (disp : BitVec 16) (s : State) : Host.Outcome State Fault Refusal :=
  commit s (jump64Reg condLe rd rs disp s)

/-- `jle rd, imm32, disp16` (rule R302). -/
def execJleImm (rd : Reg) (imm : BitVec 32) (disp : BitVec 16) (s : State) : Host.Outcome State Fault Refusal :=
  commit s (jump64Imm condLe rd imm disp s)

/-- `jset rd, rs, disp16` (rule R303). -/
def execJsetReg (rd rs : Reg) (disp : BitVec 16) (s : State) : Host.Outcome State Fault Refusal :=
  commit s (jump64Reg condSet rd rs disp s)

/-- `jset rd, imm32, disp16` (rule R304). -/
def execJsetImm (rd : Reg) (imm : BitVec 32) (disp : BitVec 16) (s : State) : Host.Outcome State Fault Refusal :=
  commit s (jump64Imm condSet rd imm disp s)

/-- `jne rd, rs, disp16` (rule R305). -/
def execJneReg (rd rs : Reg) (disp : BitVec 16) (s : State) : Host.Outcome State Fault Refusal :=
  commit s (jump64Reg condNe rd rs disp s)

/-- `jne rd, imm32, disp16` (rule R306). -/
def execJneImm (rd : Reg) (imm : BitVec 32) (disp : BitVec 16) (s : State) : Host.Outcome State Fault Refusal :=
  commit s (jump64Imm condNe rd imm disp s)

/-- `jsgt rd, rs, disp16` (rule R307). -/
def execJsgtReg (rd rs : Reg) (disp : BitVec 16) (s : State) : Host.Outcome State Fault Refusal :=
  commit s (jump64Reg condSgt rd rs disp s)

/-- `jsgt rd, imm32, disp16` (rule R308). -/
def execJsgtImm (rd : Reg) (imm : BitVec 32) (disp : BitVec 16) (s : State) : Host.Outcome State Fault Refusal :=
  commit s (jump64Imm condSgt rd imm disp s)

/-- `jsge rd, rs, disp16` (rule R309). -/
def execJsgeReg (rd rs : Reg) (disp : BitVec 16) (s : State) : Host.Outcome State Fault Refusal :=
  commit s (jump64Reg condSge rd rs disp s)

/-- `jsge rd, imm32, disp16` (rule R310). -/
def execJsgeImm (rd : Reg) (imm : BitVec 32) (disp : BitVec 16) (s : State) : Host.Outcome State Fault Refusal :=
  commit s (jump64Imm condSge rd imm disp s)

/-- `jslt rd, rs, disp16` (rule R311). -/
def execJsltReg (rd rs : Reg) (disp : BitVec 16) (s : State) : Host.Outcome State Fault Refusal :=
  commit s (jump64Reg condSlt rd rs disp s)

/-- `jslt rd, imm32, disp16` (rule R312). -/
def execJsltImm (rd : Reg) (imm : BitVec 32) (disp : BitVec 16) (s : State) : Host.Outcome State Fault Refusal :=
  commit s (jump64Imm condSlt rd imm disp s)

/-- `jsle rd, rs, disp16` (rule R313). -/
def execJsleReg (rd rs : Reg) (disp : BitVec 16) (s : State) : Host.Outcome State Fault Refusal :=
  commit s (jump64Reg condSle rd rs disp s)

/-- `jsle rd, imm32, disp16` (rule R314). -/
def execJsleImm (rd : Reg) (imm : BitVec 32) (disp : BitVec 16) (s : State) : Host.Outcome State Fault Refusal :=
  commit s (jump64Imm condSle rd imm disp s)

end Sys2Proof.Machine
end

