-- ==== Sys2Proof/Machine/Jump32.lean ====
section
/-! DEFINITION. The 32-bit conditional jumps (rules R330 to R352). One meaning per instruction. -/

namespace Sys2Proof.Machine

/-- `jeq32 rd, rs, disp16` (rule R331). -/
def execJeq32Reg (rd rs : Reg) (disp : BitVec 16) (s : State) : Host.Outcome State Fault Refusal :=
  commit s (jump32Reg condEq rd rs disp s)

/-- `jeq32 rd, imm32, disp16` (rule R332). -/
def execJeq32Imm (rd : Reg) (imm : BitVec 32) (disp : BitVec 16) (s : State) : Host.Outcome State Fault Refusal :=
  commit s (jump32Imm condEq rd imm disp s)

/-- `jgt32 rd, rs, disp16` (rule R333). -/
def execJgt32Reg (rd rs : Reg) (disp : BitVec 16) (s : State) : Host.Outcome State Fault Refusal :=
  commit s (jump32Reg condGt rd rs disp s)

/-- `jgt32 rd, imm32, disp16` (rule R334). -/
def execJgt32Imm (rd : Reg) (imm : BitVec 32) (disp : BitVec 16) (s : State) : Host.Outcome State Fault Refusal :=
  commit s (jump32Imm condGt rd imm disp s)

/-- `jge32 rd, rs, disp16` (rule R335). -/
def execJge32Reg (rd rs : Reg) (disp : BitVec 16) (s : State) : Host.Outcome State Fault Refusal :=
  commit s (jump32Reg condGe rd rs disp s)

/-- `jge32 rd, imm32, disp16` (rule R336). -/
def execJge32Imm (rd : Reg) (imm : BitVec 32) (disp : BitVec 16) (s : State) : Host.Outcome State Fault Refusal :=
  commit s (jump32Imm condGe rd imm disp s)

/-- `jlt32 rd, rs, disp16` (rule R337). -/
def execJlt32Reg (rd rs : Reg) (disp : BitVec 16) (s : State) : Host.Outcome State Fault Refusal :=
  commit s (jump32Reg condLt rd rs disp s)

/-- `jlt32 rd, imm32, disp16` (rule R338). -/
def execJlt32Imm (rd : Reg) (imm : BitVec 32) (disp : BitVec 16) (s : State) : Host.Outcome State Fault Refusal :=
  commit s (jump32Imm condLt rd imm disp s)

/-- `jle32 rd, rs, disp16` (rule R339). -/
def execJle32Reg (rd rs : Reg) (disp : BitVec 16) (s : State) : Host.Outcome State Fault Refusal :=
  commit s (jump32Reg condLe rd rs disp s)

/-- `jle32 rd, imm32, disp16` (rule R340). -/
def execJle32Imm (rd : Reg) (imm : BitVec 32) (disp : BitVec 16) (s : State) : Host.Outcome State Fault Refusal :=
  commit s (jump32Imm condLe rd imm disp s)

/-- `jset32 rd, rs, disp16` (rule R341). -/
def execJset32Reg (rd rs : Reg) (disp : BitVec 16) (s : State) : Host.Outcome State Fault Refusal :=
  commit s (jump32Reg condSet rd rs disp s)

/-- `jset32 rd, imm32, disp16` (rule R342). -/
def execJset32Imm (rd : Reg) (imm : BitVec 32) (disp : BitVec 16) (s : State) : Host.Outcome State Fault Refusal :=
  commit s (jump32Imm condSet rd imm disp s)

/-- `jne32 rd, rs, disp16` (rule R343). -/
def execJne32Reg (rd rs : Reg) (disp : BitVec 16) (s : State) : Host.Outcome State Fault Refusal :=
  commit s (jump32Reg condNe rd rs disp s)

/-- `jne32 rd, imm32, disp16` (rule R344). -/
def execJne32Imm (rd : Reg) (imm : BitVec 32) (disp : BitVec 16) (s : State) : Host.Outcome State Fault Refusal :=
  commit s (jump32Imm condNe rd imm disp s)

/-- `jsgt32 rd, rs, disp16` (rule R345). -/
def execJsgt32Reg (rd rs : Reg) (disp : BitVec 16) (s : State) : Host.Outcome State Fault Refusal :=
  commit s (jump32Reg condSgt rd rs disp s)

/-- `jsgt32 rd, imm32, disp16` (rule R346). -/
def execJsgt32Imm (rd : Reg) (imm : BitVec 32) (disp : BitVec 16) (s : State) : Host.Outcome State Fault Refusal :=
  commit s (jump32Imm condSgt rd imm disp s)

/-- `jsge32 rd, rs, disp16` (rule R347). -/
def execJsge32Reg (rd rs : Reg) (disp : BitVec 16) (s : State) : Host.Outcome State Fault Refusal :=
  commit s (jump32Reg condSge rd rs disp s)

/-- `jsge32 rd, imm32, disp16` (rule R348). -/
def execJsge32Imm (rd : Reg) (imm : BitVec 32) (disp : BitVec 16) (s : State) : Host.Outcome State Fault Refusal :=
  commit s (jump32Imm condSge rd imm disp s)

/-- `jslt32 rd, rs, disp16` (rule R349). -/
def execJslt32Reg (rd rs : Reg) (disp : BitVec 16) (s : State) : Host.Outcome State Fault Refusal :=
  commit s (jump32Reg condSlt rd rs disp s)

/-- `jslt32 rd, imm32, disp16` (rule R350). -/
def execJslt32Imm (rd : Reg) (imm : BitVec 32) (disp : BitVec 16) (s : State) : Host.Outcome State Fault Refusal :=
  commit s (jump32Imm condSlt rd imm disp s)

/-- `jsle32 rd, rs, disp16` (rule R351). -/
def execJsle32Reg (rd rs : Reg) (disp : BitVec 16) (s : State) : Host.Outcome State Fault Refusal :=
  commit s (jump32Reg condSle rd rs disp s)

/-- `jsle32 rd, imm32, disp16` (rule R352). -/
def execJsle32Imm (rd : Reg) (imm : BitVec 32) (disp : BitVec 16) (s : State) : Host.Outcome State Fault Refusal :=
  commit s (jump32Imm condSle rd imm disp s)

end Sys2Proof.Machine
end

