-- ==== Sys2Proof/Machine/LoadImm.lean ====
section
/-! DEFINITION. The 64-bit immediate load, the one instruction of two slots (rules R240, R241). One meaning per instruction. -/

namespace Sys2Proof.Machine

/-- `lddw rd, imm64` (rule R240). -/
def execLddw (rd : Reg) (imm : BitVec 64) (s : State) : Host.Outcome State Fault Refusal :=
  commit s (.done () ((s.setReg rd imm).advance 2))

end Sys2Proof.Machine
end

