-- ==== Sys2Proof/Machine/LoadStore.lean ====
section
/-! DEFINITION. The generic loads and stores (rules R260 to R277). One meaning per instruction. -/

namespace Sys2Proof.Machine

/-- `ldxdw rd, [rs + offset16]` (rule R261). -/
def execLdxdw (rd rs : Reg) (off : BitVec 16) (s : State) : Host.Outcome State Fault Refusal :=
  commit s (load 8 zext64 rd rs off s)

/-- `ldxw rd, [rs + offset16]` (rule R262). -/
def execLdxw (rd rs : Reg) (off : BitVec 16) (s : State) : Host.Outcome State Fault Refusal :=
  commit s (load 4 zext64 rd rs off s)

/-- `ldxh rd, [rs + offset16]` (rule R263). -/
def execLdxh (rd rs : Reg) (off : BitVec 16) (s : State) : Host.Outcome State Fault Refusal :=
  commit s (load 2 zext64 rd rs off s)

/-- `ldxb rd, [rs + offset16]` (rule R264). -/
def execLdxb (rd rs : Reg) (off : BitVec 16) (s : State) : Host.Outcome State Fault Refusal :=
  commit s (load 1 zext64 rd rs off s)

/-- `ldxsdw rd, [rs + offset16]` (rule R265). -/
def execLdxsdw (rd rs : Reg) (off : BitVec 16) (s : State) : Host.Outcome State Fault Refusal :=
  commit s (load 8 sext64 rd rs off s)

/-- `ldxsw rd, [rs + offset16]` (rule R266). -/
def execLdxsw (rd rs : Reg) (off : BitVec 16) (s : State) : Host.Outcome State Fault Refusal :=
  commit s (load 4 sext64 rd rs off s)

/-- `ldxsh rd, [rs + offset16]` (rule R267). -/
def execLdxsh (rd rs : Reg) (off : BitVec 16) (s : State) : Host.Outcome State Fault Refusal :=
  commit s (load 2 sext64 rd rs off s)

/-- `ldxsb rd, [rs + offset16]` (rule R268). -/
def execLdxsb (rd rs : Reg) (off : BitVec 16) (s : State) : Host.Outcome State Fault Refusal :=
  commit s (load 1 sext64 rd rs off s)

/-- `stxdw [rd + offset16], rs` (rule R269). -/
def execStxdw (rd rs : Reg) (off : BitVec 16) (s : State) : Host.Outcome State Fault Refusal :=
  commit s (storeReg 8 rd rs off s)

/-- `stxw [rd + offset16], rs` (rule R270). -/
def execStxw (rd rs : Reg) (off : BitVec 16) (s : State) : Host.Outcome State Fault Refusal :=
  commit s (storeReg 4 rd rs off s)

/-- `stxh [rd + offset16], rs` (rule R271). -/
def execStxh (rd rs : Reg) (off : BitVec 16) (s : State) : Host.Outcome State Fault Refusal :=
  commit s (storeReg 2 rd rs off s)

/-- `stxb [rd + offset16], rs` (rule R272). -/
def execStxb (rd rs : Reg) (off : BitVec 16) (s : State) : Host.Outcome State Fault Refusal :=
  commit s (storeReg 1 rd rs off s)

/-- `stdw [rd + offset16], imm32` (rule R273). -/
def execStdw (rd : Reg) (off : BitVec 16) (imm : BitVec 32) (s : State) : Host.Outcome State Fault Refusal :=
  commit s (storeImm 8 rd off imm s)

/-- `stw [rd + offset16], imm32` (rule R274). -/
def execStw (rd : Reg) (off : BitVec 16) (imm : BitVec 32) (s : State) : Host.Outcome State Fault Refusal :=
  commit s (storeImm 4 rd off imm s)

/-- `sth [rd + offset16], imm32` (rule R275). -/
def execSth (rd : Reg) (off : BitVec 16) (imm : BitVec 32) (s : State) : Host.Outcome State Fault Refusal :=
  commit s (storeImm 2 rd off imm s)

/-- `stb [rd + offset16], imm32` (rule R276). -/
def execStb (rd : Reg) (off : BitVec 16) (imm : BitVec 32) (s : State) : Host.Outcome State Fault Refusal :=
  commit s (storeImm 1 rd off imm s)

end Sys2Proof.Machine
end

