-- ==== Sys2Proof/Machine/Packet.lean ====
section
/-! DEFINITION. The socket-filter loads (rules R245 to R251). One meaning per instruction. -/

namespace Sys2Proof.Machine

/-- `ldabsw imm32` (rule R246). -/
def execLdabsw (imm : BitVec 32) (s : State) : Host.Outcome State Fault Refusal :=
  commit s (packetAbsolute 4 imm s)

/-- `ldabsh imm32` (rule R247). -/
def execLdabsh (imm : BitVec 32) (s : State) : Host.Outcome State Fault Refusal :=
  commit s (packetAbsolute 2 imm s)

/-- `ldabsb imm32` (rule R248). -/
def execLdabsb (imm : BitVec 32) (s : State) : Host.Outcome State Fault Refusal :=
  commit s (packetAbsolute 1 imm s)

/-- `ldindw rs, imm32` (rule R249). -/
def execLdindw (rs : Reg) (imm : BitVec 32) (s : State) : Host.Outcome State Fault Refusal :=
  commit s (packetIndirect 4 rs imm s)

/-- `ldindh rs, imm32` (rule R250). -/
def execLdindh (rs : Reg) (imm : BitVec 32) (s : State) : Host.Outcome State Fault Refusal :=
  commit s (packetIndirect 2 rs imm s)

/-- `ldindb rs, imm32` (rule R251). -/
def execLdindb (rs : Reg) (imm : BitVec 32) (s : State) : Host.Outcome State Fault Refusal :=
  commit s (packetIndirect 1 rs imm s)

end Sys2Proof.Machine
end

