-- ==== Sys2Proof/Machine/Dispatch.lean ====
section
/-! DEFINITION. One arm per instruction: which meaning runs. -/

namespace Sys2Proof.Machine

def exec (i : Instr) (s : State) : Host.Outcome State Fault Refusal :=
  match i with
  | .addReg rd rs => Sys2Proof.Machine.execAddReg rd rs s
  | .addImm rd imm => Sys2Proof.Machine.execAddImm rd imm s
  | .subReg rd rs => Sys2Proof.Machine.execSubReg rd rs s
  | .subImm rd imm => Sys2Proof.Machine.execSubImm rd imm s
  | .mulReg rd rs => Sys2Proof.Machine.execMulReg rd rs s
  | .mulImm rd imm => Sys2Proof.Machine.execMulImm rd imm s
  | .divReg rd rs => Sys2Proof.Machine.execDivReg rd rs s
  | .divImm rd imm => Sys2Proof.Machine.execDivImm rd imm s
  | .modReg rd rs => Sys2Proof.Machine.execModReg rd rs s
  | .modImm rd imm => Sys2Proof.Machine.execModImm rd imm s
  | .andReg rd rs => Sys2Proof.Machine.execAndReg rd rs s
  | .andImm rd imm => Sys2Proof.Machine.execAndImm rd imm s
  | .orReg rd rs => Sys2Proof.Machine.execOrReg rd rs s
  | .orImm rd imm => Sys2Proof.Machine.execOrImm rd imm s
  | .xorReg rd rs => Sys2Proof.Machine.execXorReg rd rs s
  | .xorImm rd imm => Sys2Proof.Machine.execXorImm rd imm s
  | .lshReg rd rs => Sys2Proof.Machine.execLshReg rd rs s
  | .lshImm rd imm => Sys2Proof.Machine.execLshImm rd imm s
  | .rshReg rd rs => Sys2Proof.Machine.execRshReg rd rs s
  | .rshImm rd imm => Sys2Proof.Machine.execRshImm rd imm s
  | .arshReg rd rs => Sys2Proof.Machine.execArshReg rd rs s
  | .arshImm rd imm => Sys2Proof.Machine.execArshImm rd imm s
  | .neg rd => Sys2Proof.Machine.execNeg rd s
  | .movReg rd rs => Sys2Proof.Machine.execMovReg rd rs s
  | .movImm rd imm => Sys2Proof.Machine.execMovImm rd imm s
  | .movs8 rd rs => Sys2Proof.Machine.execMovs8 rd rs s
  | .movs16 rd rs => Sys2Proof.Machine.execMovs16 rd rs s
  | .movs32 rd rs => Sys2Proof.Machine.execMovs32 rd rs s
  | .add32Reg rd rs => Sys2Proof.Machine.execAdd32Reg rd rs s
  | .add32Imm rd imm => Sys2Proof.Machine.execAdd32Imm rd imm s
  | .sub32Reg rd rs => Sys2Proof.Machine.execSub32Reg rd rs s
  | .sub32Imm rd imm => Sys2Proof.Machine.execSub32Imm rd imm s
  | .mul32Reg rd rs => Sys2Proof.Machine.execMul32Reg rd rs s
  | .mul32Imm rd imm => Sys2Proof.Machine.execMul32Imm rd imm s
  | .div32Reg rd rs => Sys2Proof.Machine.execDiv32Reg rd rs s
  | .div32Imm rd imm => Sys2Proof.Machine.execDiv32Imm rd imm s
  | .mod32Reg rd rs => Sys2Proof.Machine.execMod32Reg rd rs s
  | .mod32Imm rd imm => Sys2Proof.Machine.execMod32Imm rd imm s
  | .and32Reg rd rs => Sys2Proof.Machine.execAnd32Reg rd rs s
  | .and32Imm rd imm => Sys2Proof.Machine.execAnd32Imm rd imm s
  | .or32Reg rd rs => Sys2Proof.Machine.execOr32Reg rd rs s
  | .or32Imm rd imm => Sys2Proof.Machine.execOr32Imm rd imm s
  | .xor32Reg rd rs => Sys2Proof.Machine.execXor32Reg rd rs s
  | .xor32Imm rd imm => Sys2Proof.Machine.execXor32Imm rd imm s
  | .lsh32Reg rd rs => Sys2Proof.Machine.execLsh32Reg rd rs s
  | .lsh32Imm rd imm => Sys2Proof.Machine.execLsh32Imm rd imm s
  | .rsh32Reg rd rs => Sys2Proof.Machine.execRsh32Reg rd rs s
  | .rsh32Imm rd imm => Sys2Proof.Machine.execRsh32Imm rd imm s
  | .arsh32Reg rd rs => Sys2Proof.Machine.execArsh32Reg rd rs s
  | .arsh32Imm rd imm => Sys2Proof.Machine.execArsh32Imm rd imm s
  | .neg32 rd => Sys2Proof.Machine.execNeg32 rd s
  | .mov32Reg rd rs => Sys2Proof.Machine.execMov32Reg rd rs s
  | .mov32Imm rd imm => Sys2Proof.Machine.execMov32Imm rd imm s
  | .mov32s8 rd rs => Sys2Proof.Machine.execMov32s8 rd rs s
  | .mov32s16 rd rs => Sys2Proof.Machine.execMov32s16 rd rs s
  | .mov32s32 rd rs => Sys2Proof.Machine.execMov32s32 rd rs s
  | .endle16 rd => Sys2Proof.Machine.execEndle16 rd s
  | .endle32 rd => Sys2Proof.Machine.execEndle32 rd s
  | .endle64 rd => Sys2Proof.Machine.execEndle64 rd s
  | .endbe16 rd => Sys2Proof.Machine.execEndbe16 rd s
  | .endbe32 rd => Sys2Proof.Machine.execEndbe32 rd s
  | .endbe64 rd => Sys2Proof.Machine.execEndbe64 rd s
  | .bswap16 rd => Sys2Proof.Machine.execBswap16 rd s
  | .bswap32 rd => Sys2Proof.Machine.execBswap32 rd s
  | .bswap64 rd => Sys2Proof.Machine.execBswap64 rd s
  | .lddw rd imm => Sys2Proof.Machine.execLddw rd imm s
  | .ldabsw imm => Sys2Proof.Machine.execLdabsw imm s
  | .ldabsh imm => Sys2Proof.Machine.execLdabsh imm s
  | .ldabsb imm => Sys2Proof.Machine.execLdabsb imm s
  | .ldindw rs imm => Sys2Proof.Machine.execLdindw rs imm s
  | .ldindh rs imm => Sys2Proof.Machine.execLdindh rs imm s
  | .ldindb rs imm => Sys2Proof.Machine.execLdindb rs imm s
  | .ldxdw rd rs off => Sys2Proof.Machine.execLdxdw rd rs off s
  | .ldxw rd rs off => Sys2Proof.Machine.execLdxw rd rs off s
  | .ldxh rd rs off => Sys2Proof.Machine.execLdxh rd rs off s
  | .ldxb rd rs off => Sys2Proof.Machine.execLdxb rd rs off s
  | .ldxsdw rd rs off => Sys2Proof.Machine.execLdxsdw rd rs off s
  | .ldxsw rd rs off => Sys2Proof.Machine.execLdxsw rd rs off s
  | .ldxsh rd rs off => Sys2Proof.Machine.execLdxsh rd rs off s
  | .ldxsb rd rs off => Sys2Proof.Machine.execLdxsb rd rs off s
  | .stxdw rd rs off => Sys2Proof.Machine.execStxdw rd rs off s
  | .stxw rd rs off => Sys2Proof.Machine.execStxw rd rs off s
  | .stxh rd rs off => Sys2Proof.Machine.execStxh rd rs off s
  | .stxb rd rs off => Sys2Proof.Machine.execStxb rd rs off s
  | .stdw rd off imm => Sys2Proof.Machine.execStdw rd off imm s
  | .stw rd off imm => Sys2Proof.Machine.execStw rd off imm s
  | .sth rd off imm => Sys2Proof.Machine.execSth rd off imm s
  | .stb rd off imm => Sys2Proof.Machine.execStb rd off imm s
  | .ja disp => Sys2Proof.Machine.execJa disp s
  | .jal disp => Sys2Proof.Machine.execJal disp s
  | .jeqReg rd rs disp => Sys2Proof.Machine.execJeqReg rd rs disp s
  | .jeqImm rd imm disp => Sys2Proof.Machine.execJeqImm rd imm disp s
  | .jgtReg rd rs disp => Sys2Proof.Machine.execJgtReg rd rs disp s
  | .jgtImm rd imm disp => Sys2Proof.Machine.execJgtImm rd imm disp s
  | .jgeReg rd rs disp => Sys2Proof.Machine.execJgeReg rd rs disp s
  | .jgeImm rd imm disp => Sys2Proof.Machine.execJgeImm rd imm disp s
  | .jltReg rd rs disp => Sys2Proof.Machine.execJltReg rd rs disp s
  | .jltImm rd imm disp => Sys2Proof.Machine.execJltImm rd imm disp s
  | .jleReg rd rs disp => Sys2Proof.Machine.execJleReg rd rs disp s
  | .jleImm rd imm disp => Sys2Proof.Machine.execJleImm rd imm disp s
  | .jsetReg rd rs disp => Sys2Proof.Machine.execJsetReg rd rs disp s
  | .jsetImm rd imm disp => Sys2Proof.Machine.execJsetImm rd imm disp s
  | .jneReg rd rs disp => Sys2Proof.Machine.execJneReg rd rs disp s
  | .jneImm rd imm disp => Sys2Proof.Machine.execJneImm rd imm disp s
  | .jsgtReg rd rs disp => Sys2Proof.Machine.execJsgtReg rd rs disp s
  | .jsgtImm rd imm disp => Sys2Proof.Machine.execJsgtImm rd imm disp s
  | .jsgeReg rd rs disp => Sys2Proof.Machine.execJsgeReg rd rs disp s
  | .jsgeImm rd imm disp => Sys2Proof.Machine.execJsgeImm rd imm disp s
  | .jsltReg rd rs disp => Sys2Proof.Machine.execJsltReg rd rs disp s
  | .jsltImm rd imm disp => Sys2Proof.Machine.execJsltImm rd imm disp s
  | .jsleReg rd rs disp => Sys2Proof.Machine.execJsleReg rd rs disp s
  | .jsleImm rd imm disp => Sys2Proof.Machine.execJsleImm rd imm disp s
  | .callLocal disp => Sys2Proof.Machine.execCallLocal disp s
  | .callHelper id => Sys2Proof.Machine.execCallHelper id s
  | .exit => Sys2Proof.Machine.execExit s
  | .jeq32Reg rd rs disp => Sys2Proof.Machine.execJeq32Reg rd rs disp s
  | .jeq32Imm rd imm disp => Sys2Proof.Machine.execJeq32Imm rd imm disp s
  | .jgt32Reg rd rs disp => Sys2Proof.Machine.execJgt32Reg rd rs disp s
  | .jgt32Imm rd imm disp => Sys2Proof.Machine.execJgt32Imm rd imm disp s
  | .jge32Reg rd rs disp => Sys2Proof.Machine.execJge32Reg rd rs disp s
  | .jge32Imm rd imm disp => Sys2Proof.Machine.execJge32Imm rd imm disp s
  | .jlt32Reg rd rs disp => Sys2Proof.Machine.execJlt32Reg rd rs disp s
  | .jlt32Imm rd imm disp => Sys2Proof.Machine.execJlt32Imm rd imm disp s
  | .jle32Reg rd rs disp => Sys2Proof.Machine.execJle32Reg rd rs disp s
  | .jle32Imm rd imm disp => Sys2Proof.Machine.execJle32Imm rd imm disp s
  | .jset32Reg rd rs disp => Sys2Proof.Machine.execJset32Reg rd rs disp s
  | .jset32Imm rd imm disp => Sys2Proof.Machine.execJset32Imm rd imm disp s
  | .jne32Reg rd rs disp => Sys2Proof.Machine.execJne32Reg rd rs disp s
  | .jne32Imm rd imm disp => Sys2Proof.Machine.execJne32Imm rd imm disp s
  | .jsgt32Reg rd rs disp => Sys2Proof.Machine.execJsgt32Reg rd rs disp s
  | .jsgt32Imm rd imm disp => Sys2Proof.Machine.execJsgt32Imm rd imm disp s
  | .jsge32Reg rd rs disp => Sys2Proof.Machine.execJsge32Reg rd rs disp s
  | .jsge32Imm rd imm disp => Sys2Proof.Machine.execJsge32Imm rd imm disp s
  | .jslt32Reg rd rs disp => Sys2Proof.Machine.execJslt32Reg rd rs disp s
  | .jslt32Imm rd imm disp => Sys2Proof.Machine.execJslt32Imm rd imm disp s
  | .jsle32Reg rd rs disp => Sys2Proof.Machine.execJsle32Reg rd rs disp s
  | .jsle32Imm rd imm disp => Sys2Proof.Machine.execJsle32Imm rd imm disp s
  | .acmp rd rs off => Sys2Proof.Machine.execAcmp rd rs off s
  | .axchg rd rs off => Sys2Proof.Machine.execAxchg rd rs off s
  | .aadd rd rs off => Sys2Proof.Machine.execAadd rd rs off s
  | .aor rd rs off => Sys2Proof.Machine.execAor rd rs off s
  | .aand rd rs off => Sys2Proof.Machine.execAand rd rs off s
  | .axor rd rs off => Sys2Proof.Machine.execAxor rd rs off s
  | .afadd rd rs off => Sys2Proof.Machine.execAfadd rd rs off s
  | .afor rd rs off => Sys2Proof.Machine.execAfor rd rs off s
  | .afand rd rs off => Sys2Proof.Machine.execAfand rd rs off s
  | .afxor rd rs off => Sys2Proof.Machine.execAfxor rd rs off s
  | .acmp32 rd rs off => Sys2Proof.Machine.execAcmp32 rd rs off s
  | .axchg32 rd rs off => Sys2Proof.Machine.execAxchg32 rd rs off s
  | .aadd32 rd rs off => Sys2Proof.Machine.execAadd32 rd rs off s
  | .aor32 rd rs off => Sys2Proof.Machine.execAor32 rd rs off s
  | .aand32 rd rs off => Sys2Proof.Machine.execAand32 rd rs off s
  | .axor32 rd rs off => Sys2Proof.Machine.execAxor32 rd rs off s
  | .afadd32 rd rs off => Sys2Proof.Machine.execAfadd32 rd rs off s
  | .afor32 rd rs off => Sys2Proof.Machine.execAfor32 rd rs off s
  | .afand32 rd rs off => Sys2Proof.Machine.execAfand32 rd rs off s
  | .afxor32 rd rs off => Sys2Proof.Machine.execAfxor32 rd rs off s

end Sys2Proof.Machine
end

