-- ==== Sys2Proof/Machine/Fetch.lean ====
section
/-! DEFINITION. Instruction fetch from the program text, and placing slots in it. -/

namespace Sys2Proof.Machine

/-- The slots of `PROG` from pc on; none when pc is outside `0 <= pc < PROG_LEN` (rules R65, R402). -/
def State.text (s : State) : List Slot := if s.pc < 0 then [] else s.params.prog.drop s.pc.toNat

/-- Fetch and decode, steps (1) to (7) of rule R116: an instruction, or the fault `PcOutOfRange` or
`IllegalInstruction`. -/
def fetchInstr (s : State) : Except FaultCause Instr :=
  match s.text with
  | [] => .error (.pcOutOfRange s.pc)
  | sl :: rest =>
    match decodeSlots s.params.isaVersion s.params.endian (sl :: rest) with
    | .ok i => .ok i
    | .error _ => .error (.illegalInstruction (sl.fields s.params.endian).word)

/-- A slot of zeros, which is no instruction (rule R97). -/
def zeroSlot : Slot := ⟨0, 0, 0, 0, 0, 0, 0, 0⟩

/-- A text with slots placed from an index on, filled up with slots of zeros before that index and otherwise as it
was. -/
def placeSlots : List Slot → Nat → List Slot → List Slot
  | text, 0, new => new ++ text.drop new.length
  | [], k + 1, new => zeroSlot :: placeSlots [] k new
  | t :: text, k + 1, new => t :: placeSlots text k new

end Sys2Proof.Machine
end

