-- ==== Sys2Proof/Machine/Cycle.lean ====
section
/-! DEFINITION. One step of a running machine. -/

namespace Sys2Proof.Machine

/-- One step of a running machine: the moves `ENV` makes between the step before and this one (log 19), then fetch
and decode, then the instruction, inside which `ENV` does not act (rules R68, R69, R116, R410). A fetch or decode
fault is taken like any other (rules R400, R410). -/
def runStep (s : State) : Host.Outcome State Fault Refusal :=
  match fetchInstr s.envStep with
  | .error c => .next (s.envStep.raise c)
  | .ok i => exec i s.envStep

end Sys2Proof.Machine
end

