-- ==== Sys2Proof/Machine/Step.lean ====
section
/-! DEFINITION. The step function, and placing the next instruction to run. -/

namespace Sys2Proof.Machine

/-- One step. Only a `Running` machine steps: `Exited` and `Faulted` have no successor (rules R34, R400). -/
def step (s : State) : Host.Outcome State Fault Refusal :=
  match s.status with
  | .running => runStep s
  | .exited v => .fault (.exited v)
  | .faulted c pc => .fault (.faulted c pc)

/-- The state whose next step runs the instruction with the table word `w` of `nbits` bits: its slots, in the byte order
of the machine, placed in `PROG` at pc (a pc before the text is moved to its first slot), and the machine running. This
stands for a launch with that program (log 14). -/
def State.withFetchWord (s : State) (nbits w : Nat) : State :=
  { s with
    pc := (s.pc.toNat : Int)
    params := { s.params with
      prog := placeSlots s.params.prog s.pc.toNat (slotsOfTableWord s.params.endian nbits w) }
    status := .running }

end Sys2Proof.Machine
end

