-- ==== Sys2Proof/Safety.lean ====
section
/-! DEFINITION. What a safe run is, and the terms the statements about the machine are written in: the invariant, what an
instruction reads, writes and stores as the spec lists it, and memory values as sums of bytes. None of it is used by the
machine. -/

namespace Sys2Proof.Machine

/-- A state no fault has stopped (rule R34): a safe run is one whose every state is such. -/
def State.safe (s : State) : Prop := ∀ c pc, s.status ≠ .faulted c pc

/-! ### What the launcher must establish -/

/-- The bytes of data memory below `FP0` that the frames of all depths can take (rules R52, R441 (2)). -/
def stackSpan (p : Params) : Nat := (p.maxCallDepth - 1) * p.frameStride + p.stackSize

/-- Two regions share no address (rule R51). -/
abbrev regionsDisjoint (r q : Region) : Prop :=
  r.base.toNat + r.len ≤ q.base.toNat ∨ q.base.toNat + q.len ≤ r.base.toNat

/-- What the platform must establish of the parameters, as far as the machine can depend on it (rule R441 (2), (3),
(7)). -/
abbrev launchOk (p : Params) : Prop :=
  (∀ r ∈ p.regions, 0 < r.len ∧ r.base.toNat + r.len ≤ 2 ^ 64) ∧
  p.regions.Pairwise regionsDisjoint ∧
  stackSpan p ≤ p.fp0.toNat ∧
  (∃ r ∈ p.regions, r.readable = true ∧ r.writable = true ∧ r.base.toNat ≤ p.fp0.toNat - stackSpan p ∧
    p.fp0.toNat ≤ r.base.toNat + r.len) ∧
  p.stackSize ≤ p.frameStride

/-! ### The invariant -/

/-- r10 in the frame number `k` (rule R52). -/
def framePointer (p : Params) (k : Nat) : Word := p.fp0 - BitVec.ofNat 64 (k * p.frameStride)

/-- What every step keeps: memory is in its canonical form and lists only mapped addresses (rules R35, R51); the call
stack is within its bound (rules R32, R315); r10 and the saved copies of it are those of their frames (rule R52); every
saved return slot follows a call inside the program (rules R26, R32). -/
abbrev Inv (s : State) : Prop :=
  s.mem.wf = true ∧
  (∀ c ∈ s.mem, isMapped s.params c.1 = true) ∧
  (s.frames = [] ∨ s.frames.length < s.params.maxCallDepth) ∧
  s.regs.r10 = framePointer s.params s.frames.length ∧
  s.frames.map Frame.s10 = (List.range s.frames.length).map (framePointer s.params) ∧
  (∀ f ∈ s.frames, 1 ≤ f.ret ∧ f.ret ≤ s.params.prog.length)

/-! ### Registers and memory an instruction names -/

/-- The registers an instruction reads, in the order in which a missing value is reported (rule R404). -/
def readOrder : Instr → List Reg
  | .addReg rd rs => [rd, rs]
  | .addImm rd _ => [rd]
  | .subReg rd rs => [rd, rs]
  | .subImm rd _ => [rd]
  | .mulReg rd rs => [rd, rs]
  | .mulImm rd _ => [rd]
  | .divReg rd rs => [rd, rs]
  | .divImm rd _ => [rd]
  | .modReg rd rs => [rd, rs]
  | .modImm rd _ => [rd]
  | .andReg rd rs => [rd, rs]
  | .andImm rd _ => [rd]
  | .orReg rd rs => [rd, rs]
  | .orImm rd _ => [rd]
  | .xorReg rd rs => [rd, rs]
  | .xorImm rd _ => [rd]
  | .lshReg rd rs => [rd, rs]
  | .lshImm rd _ => [rd]
  | .rshReg rd rs => [rd, rs]
  | .rshImm rd _ => [rd]
  | .arshReg rd rs => [rd, rs]
  | .arshImm rd _ => [rd]
  | .neg rd => [rd]
  | .movReg _ rs => [rs]
  | .movImm _ _ => []
  | .movs8 _ rs => [rs]
  | .movs16 _ rs => [rs]
  | .movs32 _ rs => [rs]
  | .add32Reg rd rs => [rd, rs]
  | .add32Imm rd _ => [rd]
  | .sub32Reg rd rs => [rd, rs]
  | .sub32Imm rd _ => [rd]
  | .mul32Reg rd rs => [rd, rs]
  | .mul32Imm rd _ => [rd]
  | .div32Reg rd rs => [rd, rs]
  | .div32Imm rd _ => [rd]
  | .mod32Reg rd rs => [rd, rs]
  | .mod32Imm rd _ => [rd]
  | .and32Reg rd rs => [rd, rs]
  | .and32Imm rd _ => [rd]
  | .or32Reg rd rs => [rd, rs]
  | .or32Imm rd _ => [rd]
  | .xor32Reg rd rs => [rd, rs]
  | .xor32Imm rd _ => [rd]
  | .lsh32Reg rd rs => [rd, rs]
  | .lsh32Imm rd _ => [rd]
  | .rsh32Reg rd rs => [rd, rs]
  | .rsh32Imm rd _ => [rd]
  | .arsh32Reg rd rs => [rd, rs]
  | .arsh32Imm rd _ => [rd]
  | .neg32 rd => [rd]
  | .mov32Reg _ rs => [rs]
  | .mov32Imm _ _ => []
  | .mov32s8 _ rs => [rs]
  | .mov32s16 _ rs => [rs]
  | .mov32s32 _ rs => [rs]
  | .endle16 rd => [rd]
  | .endle32 rd => [rd]
  | .endle64 rd => [rd]
  | .endbe16 rd => [rd]
  | .endbe32 rd => [rd]
  | .endbe64 rd => [rd]
  | .bswap16 rd => [rd]
  | .bswap32 rd => [rd]
  | .bswap64 rd => [rd]
  | .lddw _ _ => []
  | .ldabsw _ => [.r6]
  | .ldabsh _ => [.r6]
  | .ldabsb _ => [.r6]
  | .ldindw rs _ => [.r6, rs]
  | .ldindh rs _ => [.r6, rs]
  | .ldindb rs _ => [.r6, rs]
  | .ldxdw _ rs _ => [rs]
  | .ldxw _ rs _ => [rs]
  | .ldxh _ rs _ => [rs]
  | .ldxb _ rs _ => [rs]
  | .ldxsdw _ rs _ => [rs]
  | .ldxsw _ rs _ => [rs]
  | .ldxsh _ rs _ => [rs]
  | .ldxsb _ rs _ => [rs]
  | .stxdw rd rs _ => [rd, rs]
  | .stxw rd rs _ => [rd, rs]
  | .stxh rd rs _ => [rd, rs]
  | .stxb rd rs _ => [rd, rs]
  | .stdw rd _ _ => [rd]
  | .stw rd _ _ => [rd]
  | .sth rd _ _ => [rd]
  | .stb rd _ _ => [rd]
  | .ja _ => []
  | .jal _ => []
  | .jeqReg rd rs _ => [rd, rs]
  | .jeqImm rd _ _ => [rd]
  | .jgtReg rd rs _ => [rd, rs]
  | .jgtImm rd _ _ => [rd]
  | .jgeReg rd rs _ => [rd, rs]
  | .jgeImm rd _ _ => [rd]
  | .jltReg rd rs _ => [rd, rs]
  | .jltImm rd _ _ => [rd]
  | .jleReg rd rs _ => [rd, rs]
  | .jleImm rd _ _ => [rd]
  | .jsetReg rd rs _ => [rd, rs]
  | .jsetImm rd _ _ => [rd]
  | .jneReg rd rs _ => [rd, rs]
  | .jneImm rd _ _ => [rd]
  | .jsgtReg rd rs _ => [rd, rs]
  | .jsgtImm rd _ _ => [rd]
  | .jsgeReg rd rs _ => [rd, rs]
  | .jsgeImm rd _ _ => [rd]
  | .jsltReg rd rs _ => [rd, rs]
  | .jsltImm rd _ _ => [rd]
  | .jsleReg rd rs _ => [rd, rs]
  | .jsleImm rd _ _ => [rd]
  | .callLocal _ => []
  | .callHelper _ => []
  | .exit => [.r0]
  | .jeq32Reg rd rs _ => [rd, rs]
  | .jeq32Imm rd _ _ => [rd]
  | .jgt32Reg rd rs _ => [rd, rs]
  | .jgt32Imm rd _ _ => [rd]
  | .jge32Reg rd rs _ => [rd, rs]
  | .jge32Imm rd _ _ => [rd]
  | .jlt32Reg rd rs _ => [rd, rs]
  | .jlt32Imm rd _ _ => [rd]
  | .jle32Reg rd rs _ => [rd, rs]
  | .jle32Imm rd _ _ => [rd]
  | .jset32Reg rd rs _ => [rd, rs]
  | .jset32Imm rd _ _ => [rd]
  | .jne32Reg rd rs _ => [rd, rs]
  | .jne32Imm rd _ _ => [rd]
  | .jsgt32Reg rd rs _ => [rd, rs]
  | .jsgt32Imm rd _ _ => [rd]
  | .jsge32Reg rd rs _ => [rd, rs]
  | .jsge32Imm rd _ _ => [rd]
  | .jslt32Reg rd rs _ => [rd, rs]
  | .jslt32Imm rd _ _ => [rd]
  | .jsle32Reg rd rs _ => [rd, rs]
  | .jsle32Imm rd _ _ => [rd]
  | .acmp rd rs _ => [rd, rs, .r0]
  | .axchg rd rs _ => [rd, rs]
  | .aadd rd rs _ => [rd, rs]
  | .aor rd rs _ => [rd, rs]
  | .aand rd rs _ => [rd, rs]
  | .axor rd rs _ => [rd, rs]
  | .afadd rd rs _ => [rd, rs]
  | .afor rd rs _ => [rd, rs]
  | .afand rd rs _ => [rd, rs]
  | .afxor rd rs _ => [rd, rs]
  | .acmp32 rd rs _ => [rd, rs, .r0]
  | .axchg32 rd rs _ => [rd, rs]
  | .aadd32 rd rs _ => [rd, rs]
  | .aor32 rd rs _ => [rd, rs]
  | .aand32 rd rs _ => [rd, rs]
  | .axor32 rd rs _ => [rd, rs]
  | .afadd32 rd rs _ => [rd, rs]
  | .afor32 rd rs _ => [rd, rs]
  | .afand32 rd rs _ => [rd, rs]
  | .afxor32 rd rs _ => [rd, rs]

/-- The registers an instruction changes without naming them as operands (rule R25). -/
def implicitWrites : Instr → List Reg
  | .addReg _ _ => []
  | .addImm _ _ => []
  | .subReg _ _ => []
  | .subImm _ _ => []
  | .mulReg _ _ => []
  | .mulImm _ _ => []
  | .divReg _ _ => []
  | .divImm _ _ => []
  | .modReg _ _ => []
  | .modImm _ _ => []
  | .andReg _ _ => []
  | .andImm _ _ => []
  | .orReg _ _ => []
  | .orImm _ _ => []
  | .xorReg _ _ => []
  | .xorImm _ _ => []
  | .lshReg _ _ => []
  | .lshImm _ _ => []
  | .rshReg _ _ => []
  | .rshImm _ _ => []
  | .arshReg _ _ => []
  | .arshImm _ _ => []
  | .neg _ => []
  | .movReg _ _ => []
  | .movImm _ _ => []
  | .movs8 _ _ => []
  | .movs16 _ _ => []
  | .movs32 _ _ => []
  | .add32Reg _ _ => []
  | .add32Imm _ _ => []
  | .sub32Reg _ _ => []
  | .sub32Imm _ _ => []
  | .mul32Reg _ _ => []
  | .mul32Imm _ _ => []
  | .div32Reg _ _ => []
  | .div32Imm _ _ => []
  | .mod32Reg _ _ => []
  | .mod32Imm _ _ => []
  | .and32Reg _ _ => []
  | .and32Imm _ _ => []
  | .or32Reg _ _ => []
  | .or32Imm _ _ => []
  | .xor32Reg _ _ => []
  | .xor32Imm _ _ => []
  | .lsh32Reg _ _ => []
  | .lsh32Imm _ _ => []
  | .rsh32Reg _ _ => []
  | .rsh32Imm _ _ => []
  | .arsh32Reg _ _ => []
  | .arsh32Imm _ _ => []
  | .neg32 _ => []
  | .mov32Reg _ _ => []
  | .mov32Imm _ _ => []
  | .mov32s8 _ _ => []
  | .mov32s16 _ _ => []
  | .mov32s32 _ _ => []
  | .endle16 _ => []
  | .endle32 _ => []
  | .endle64 _ => []
  | .endbe16 _ => []
  | .endbe32 _ => []
  | .endbe64 _ => []
  | .bswap16 _ => []
  | .bswap32 _ => []
  | .bswap64 _ => []
  | .lddw _ _ => []
  | .ldabsw _ => [.r0, .r1, .r2, .r3, .r4, .r5]
  | .ldabsh _ => [.r0, .r1, .r2, .r3, .r4, .r5]
  | .ldabsb _ => [.r0, .r1, .r2, .r3, .r4, .r5]
  | .ldindw _ _ => [.r0, .r1, .r2, .r3, .r4, .r5]
  | .ldindh _ _ => [.r0, .r1, .r2, .r3, .r4, .r5]
  | .ldindb _ _ => [.r0, .r1, .r2, .r3, .r4, .r5]
  | .ldxdw _ _ _ => []
  | .ldxw _ _ _ => []
  | .ldxh _ _ _ => []
  | .ldxb _ _ _ => []
  | .ldxsdw _ _ _ => []
  | .ldxsw _ _ _ => []
  | .ldxsh _ _ _ => []
  | .ldxsb _ _ _ => []
  | .stxdw _ _ _ => []
  | .stxw _ _ _ => []
  | .stxh _ _ _ => []
  | .stxb _ _ _ => []
  | .stdw _ _ _ => []
  | .stw _ _ _ => []
  | .sth _ _ _ => []
  | .stb _ _ _ => []
  | .ja _ => []
  | .jal _ => []
  | .jeqReg _ _ _ => []
  | .jeqImm _ _ _ => []
  | .jgtReg _ _ _ => []
  | .jgtImm _ _ _ => []
  | .jgeReg _ _ _ => []
  | .jgeImm _ _ _ => []
  | .jltReg _ _ _ => []
  | .jltImm _ _ _ => []
  | .jleReg _ _ _ => []
  | .jleImm _ _ _ => []
  | .jsetReg _ _ _ => []
  | .jsetImm _ _ _ => []
  | .jneReg _ _ _ => []
  | .jneImm _ _ _ => []
  | .jsgtReg _ _ _ => []
  | .jsgtImm _ _ _ => []
  | .jsgeReg _ _ _ => []
  | .jsgeImm _ _ _ => []
  | .jsltReg _ _ _ => []
  | .jsltImm _ _ _ => []
  | .jsleReg _ _ _ => []
  | .jsleImm _ _ _ => []
  | .callLocal _ => [.r0, .r6, .r7, .r8, .r9, .r10]
  | .callHelper _ => [.r0, .r1, .r2, .r3, .r4, .r5]
  | .exit => [.r1, .r2, .r3, .r4, .r5, .r6, .r7, .r8, .r9, .r10]
  | .jeq32Reg _ _ _ => []
  | .jeq32Imm _ _ _ => []
  | .jgt32Reg _ _ _ => []
  | .jgt32Imm _ _ _ => []
  | .jge32Reg _ _ _ => []
  | .jge32Imm _ _ _ => []
  | .jlt32Reg _ _ _ => []
  | .jlt32Imm _ _ _ => []
  | .jle32Reg _ _ _ => []
  | .jle32Imm _ _ _ => []
  | .jset32Reg _ _ _ => []
  | .jset32Imm _ _ _ => []
  | .jne32Reg _ _ _ => []
  | .jne32Imm _ _ _ => []
  | .jsgt32Reg _ _ _ => []
  | .jsgt32Imm _ _ _ => []
  | .jsge32Reg _ _ _ => []
  | .jsge32Imm _ _ _ => []
  | .jslt32Reg _ _ _ => []
  | .jslt32Imm _ _ _ => []
  | .jsle32Reg _ _ _ => []
  | .jsle32Imm _ _ _ => []
  | .acmp _ _ _ => [.r0]
  | .axchg _ _ _ => []
  | .aadd _ _ _ => []
  | .aor _ _ _ => []
  | .aand _ _ _ => []
  | .axor _ _ _ => []
  | .afadd _ _ _ => []
  | .afor _ _ _ => []
  | .afand _ _ _ => []
  | .afxor _ _ _ => []
  | .acmp32 _ _ _ => [.r0]
  | .axchg32 _ _ _ => []
  | .aadd32 _ _ _ => []
  | .aor32 _ _ _ => []
  | .aand32 _ _ _ => []
  | .axor32 _ _ _ => []
  | .afadd32 _ _ _ => []
  | .afor32 _ _ _ => []
  | .afand32 _ _ _ => []
  | .afxor32 _ _ _ => []

/-- Every register an instruction may change: the written operand and the implicit ones (rule R25). -/
def mayChange (i : Instr) : List Reg := (writtenOperand i).toList ++ implicitWrites i

/-- The data-memory access of an instruction: base register, offset, number of bytes, kind (rules R54, R62, R405). -/
def dataAccess : Instr → Option (Reg × BitVec 16 × Nat × AccessKind)
  | .addReg _ _ => none
  | .addImm _ _ => none
  | .subReg _ _ => none
  | .subImm _ _ => none
  | .mulReg _ _ => none
  | .mulImm _ _ => none
  | .divReg _ _ => none
  | .divImm _ _ => none
  | .modReg _ _ => none
  | .modImm _ _ => none
  | .andReg _ _ => none
  | .andImm _ _ => none
  | .orReg _ _ => none
  | .orImm _ _ => none
  | .xorReg _ _ => none
  | .xorImm _ _ => none
  | .lshReg _ _ => none
  | .lshImm _ _ => none
  | .rshReg _ _ => none
  | .rshImm _ _ => none
  | .arshReg _ _ => none
  | .arshImm _ _ => none
  | .neg _ => none
  | .movReg _ _ => none
  | .movImm _ _ => none
  | .movs8 _ _ => none
  | .movs16 _ _ => none
  | .movs32 _ _ => none
  | .add32Reg _ _ => none
  | .add32Imm _ _ => none
  | .sub32Reg _ _ => none
  | .sub32Imm _ _ => none
  | .mul32Reg _ _ => none
  | .mul32Imm _ _ => none
  | .div32Reg _ _ => none
  | .div32Imm _ _ => none
  | .mod32Reg _ _ => none
  | .mod32Imm _ _ => none
  | .and32Reg _ _ => none
  | .and32Imm _ _ => none
  | .or32Reg _ _ => none
  | .or32Imm _ _ => none
  | .xor32Reg _ _ => none
  | .xor32Imm _ _ => none
  | .lsh32Reg _ _ => none
  | .lsh32Imm _ _ => none
  | .rsh32Reg _ _ => none
  | .rsh32Imm _ _ => none
  | .arsh32Reg _ _ => none
  | .arsh32Imm _ _ => none
  | .neg32 _ => none
  | .mov32Reg _ _ => none
  | .mov32Imm _ _ => none
  | .mov32s8 _ _ => none
  | .mov32s16 _ _ => none
  | .mov32s32 _ _ => none
  | .endle16 _ => none
  | .endle32 _ => none
  | .endle64 _ => none
  | .endbe16 _ => none
  | .endbe32 _ => none
  | .endbe64 _ => none
  | .bswap16 _ => none
  | .bswap32 _ => none
  | .bswap64 _ => none
  | .lddw _ _ => none
  | .ldabsw _ => none
  | .ldabsh _ => none
  | .ldabsb _ => none
  | .ldindw _ _ => none
  | .ldindh _ _ => none
  | .ldindb _ _ => none
  | .ldxdw _ rs off => some (rs, off, 8, .read)
  | .ldxw _ rs off => some (rs, off, 4, .read)
  | .ldxh _ rs off => some (rs, off, 2, .read)
  | .ldxb _ rs off => some (rs, off, 1, .read)
  | .ldxsdw _ rs off => some (rs, off, 8, .read)
  | .ldxsw _ rs off => some (rs, off, 4, .read)
  | .ldxsh _ rs off => some (rs, off, 2, .read)
  | .ldxsb _ rs off => some (rs, off, 1, .read)
  | .stxdw rd _ off => some (rd, off, 8, .write)
  | .stxw rd _ off => some (rd, off, 4, .write)
  | .stxh rd _ off => some (rd, off, 2, .write)
  | .stxb rd _ off => some (rd, off, 1, .write)
  | .stdw rd off _ => some (rd, off, 8, .write)
  | .stw rd off _ => some (rd, off, 4, .write)
  | .sth rd off _ => some (rd, off, 2, .write)
  | .stb rd off _ => some (rd, off, 1, .write)
  | .ja _ => none
  | .jal _ => none
  | .jeqReg _ _ _ => none
  | .jeqImm _ _ _ => none
  | .jgtReg _ _ _ => none
  | .jgtImm _ _ _ => none
  | .jgeReg _ _ _ => none
  | .jgeImm _ _ _ => none
  | .jltReg _ _ _ => none
  | .jltImm _ _ _ => none
  | .jleReg _ _ _ => none
  | .jleImm _ _ _ => none
  | .jsetReg _ _ _ => none
  | .jsetImm _ _ _ => none
  | .jneReg _ _ _ => none
  | .jneImm _ _ _ => none
  | .jsgtReg _ _ _ => none
  | .jsgtImm _ _ _ => none
  | .jsgeReg _ _ _ => none
  | .jsgeImm _ _ _ => none
  | .jsltReg _ _ _ => none
  | .jsltImm _ _ _ => none
  | .jsleReg _ _ _ => none
  | .jsleImm _ _ _ => none
  | .callLocal _ => none
  | .callHelper _ => none
  | .exit => none
  | .jeq32Reg _ _ _ => none
  | .jeq32Imm _ _ _ => none
  | .jgt32Reg _ _ _ => none
  | .jgt32Imm _ _ _ => none
  | .jge32Reg _ _ _ => none
  | .jge32Imm _ _ _ => none
  | .jlt32Reg _ _ _ => none
  | .jlt32Imm _ _ _ => none
  | .jle32Reg _ _ _ => none
  | .jle32Imm _ _ _ => none
  | .jset32Reg _ _ _ => none
  | .jset32Imm _ _ _ => none
  | .jne32Reg _ _ _ => none
  | .jne32Imm _ _ _ => none
  | .jsgt32Reg _ _ _ => none
  | .jsgt32Imm _ _ _ => none
  | .jsge32Reg _ _ _ => none
  | .jsge32Imm _ _ _ => none
  | .jslt32Reg _ _ _ => none
  | .jslt32Imm _ _ _ => none
  | .jsle32Reg _ _ _ => none
  | .jsle32Imm _ _ _ => none
  | .acmp rd _ off => some (rd, off, 8, .readwrite)
  | .axchg rd _ off => some (rd, off, 8, .readwrite)
  | .aadd rd _ off => some (rd, off, 8, .readwrite)
  | .aor rd _ off => some (rd, off, 8, .readwrite)
  | .aand rd _ off => some (rd, off, 8, .readwrite)
  | .axor rd _ off => some (rd, off, 8, .readwrite)
  | .afadd rd _ off => some (rd, off, 8, .readwrite)
  | .afor rd _ off => some (rd, off, 8, .readwrite)
  | .afand rd _ off => some (rd, off, 8, .readwrite)
  | .afxor rd _ off => some (rd, off, 8, .readwrite)
  | .acmp32 rd _ off => some (rd, off, 4, .readwrite)
  | .axchg32 rd _ off => some (rd, off, 4, .readwrite)
  | .aadd32 rd _ off => some (rd, off, 4, .readwrite)
  | .aor32 rd _ off => some (rd, off, 4, .readwrite)
  | .aand32 rd _ off => some (rd, off, 4, .readwrite)
  | .axor32 rd _ off => some (rd, off, 4, .readwrite)
  | .afadd32 rd _ off => some (rd, off, 4, .readwrite)
  | .afor32 rd _ off => some (rd, off, 4, .readwrite)
  | .afand32 rd _ off => some (rd, off, 4, .readwrite)
  | .afxor32 rd _ off => some (rd, off, 4, .readwrite)

/-- The socket-filter loads and their numbers of bytes (rule R62). -/
def packetBytes : Instr → Option Nat
  | .addReg _ _ => none
  | .addImm _ _ => none
  | .subReg _ _ => none
  | .subImm _ _ => none
  | .mulReg _ _ => none
  | .mulImm _ _ => none
  | .divReg _ _ => none
  | .divImm _ _ => none
  | .modReg _ _ => none
  | .modImm _ _ => none
  | .andReg _ _ => none
  | .andImm _ _ => none
  | .orReg _ _ => none
  | .orImm _ _ => none
  | .xorReg _ _ => none
  | .xorImm _ _ => none
  | .lshReg _ _ => none
  | .lshImm _ _ => none
  | .rshReg _ _ => none
  | .rshImm _ _ => none
  | .arshReg _ _ => none
  | .arshImm _ _ => none
  | .neg _ => none
  | .movReg _ _ => none
  | .movImm _ _ => none
  | .movs8 _ _ => none
  | .movs16 _ _ => none
  | .movs32 _ _ => none
  | .add32Reg _ _ => none
  | .add32Imm _ _ => none
  | .sub32Reg _ _ => none
  | .sub32Imm _ _ => none
  | .mul32Reg _ _ => none
  | .mul32Imm _ _ => none
  | .div32Reg _ _ => none
  | .div32Imm _ _ => none
  | .mod32Reg _ _ => none
  | .mod32Imm _ _ => none
  | .and32Reg _ _ => none
  | .and32Imm _ _ => none
  | .or32Reg _ _ => none
  | .or32Imm _ _ => none
  | .xor32Reg _ _ => none
  | .xor32Imm _ _ => none
  | .lsh32Reg _ _ => none
  | .lsh32Imm _ _ => none
  | .rsh32Reg _ _ => none
  | .rsh32Imm _ _ => none
  | .arsh32Reg _ _ => none
  | .arsh32Imm _ _ => none
  | .neg32 _ => none
  | .mov32Reg _ _ => none
  | .mov32Imm _ _ => none
  | .mov32s8 _ _ => none
  | .mov32s16 _ _ => none
  | .mov32s32 _ _ => none
  | .endle16 _ => none
  | .endle32 _ => none
  | .endle64 _ => none
  | .endbe16 _ => none
  | .endbe32 _ => none
  | .endbe64 _ => none
  | .bswap16 _ => none
  | .bswap32 _ => none
  | .bswap64 _ => none
  | .lddw _ _ => none
  | .ldabsw _ => some 4
  | .ldabsh _ => some 2
  | .ldabsb _ => some 1
  | .ldindw _ _ => some 4
  | .ldindh _ _ => some 2
  | .ldindb _ _ => some 1
  | .ldxdw _ _ _ => none
  | .ldxw _ _ _ => none
  | .ldxh _ _ _ => none
  | .ldxb _ _ _ => none
  | .ldxsdw _ _ _ => none
  | .ldxsw _ _ _ => none
  | .ldxsh _ _ _ => none
  | .ldxsb _ _ _ => none
  | .stxdw _ _ _ => none
  | .stxw _ _ _ => none
  | .stxh _ _ _ => none
  | .stxb _ _ _ => none
  | .stdw _ _ _ => none
  | .stw _ _ _ => none
  | .sth _ _ _ => none
  | .stb _ _ _ => none
  | .ja _ => none
  | .jal _ => none
  | .jeqReg _ _ _ => none
  | .jeqImm _ _ _ => none
  | .jgtReg _ _ _ => none
  | .jgtImm _ _ _ => none
  | .jgeReg _ _ _ => none
  | .jgeImm _ _ _ => none
  | .jltReg _ _ _ => none
  | .jltImm _ _ _ => none
  | .jleReg _ _ _ => none
  | .jleImm _ _ _ => none
  | .jsetReg _ _ _ => none
  | .jsetImm _ _ _ => none
  | .jneReg _ _ _ => none
  | .jneImm _ _ _ => none
  | .jsgtReg _ _ _ => none
  | .jsgtImm _ _ _ => none
  | .jsgeReg _ _ _ => none
  | .jsgeImm _ _ _ => none
  | .jsltReg _ _ _ => none
  | .jsltImm _ _ _ => none
  | .jsleReg _ _ _ => none
  | .jsleImm _ _ _ => none
  | .callLocal _ => none
  | .callHelper _ => none
  | .exit => none
  | .jeq32Reg _ _ _ => none
  | .jeq32Imm _ _ _ => none
  | .jgt32Reg _ _ _ => none
  | .jgt32Imm _ _ _ => none
  | .jge32Reg _ _ _ => none
  | .jge32Imm _ _ _ => none
  | .jlt32Reg _ _ _ => none
  | .jlt32Imm _ _ _ => none
  | .jle32Reg _ _ _ => none
  | .jle32Imm _ _ _ => none
  | .jset32Reg _ _ _ => none
  | .jset32Imm _ _ _ => none
  | .jne32Reg _ _ _ => none
  | .jne32Imm _ _ _ => none
  | .jsgt32Reg _ _ _ => none
  | .jsgt32Imm _ _ _ => none
  | .jsge32Reg _ _ _ => none
  | .jsge32Imm _ _ _ => none
  | .jslt32Reg _ _ _ => none
  | .jslt32Imm _ _ _ => none
  | .jsle32Reg _ _ _ => none
  | .jsle32Imm _ _ _ => none
  | .acmp _ _ _ => none
  | .axchg _ _ _ => none
  | .aadd _ _ _ => none
  | .aor _ _ _ => none
  | .aand _ _ _ => none
  | .axor _ _ _ => none
  | .afadd _ _ _ => none
  | .afor _ _ _ => none
  | .afand _ _ _ => none
  | .afxor _ _ _ => none
  | .acmp32 _ _ _ => none
  | .axchg32 _ _ _ => none
  | .aadd32 _ _ _ => none
  | .aor32 _ _ _ => none
  | .aand32 _ _ _ => none
  | .axor32 _ _ _ => none
  | .afadd32 _ _ _ => none
  | .afor32 _ _ _ => none
  | .afand32 _ _ _ => none
  | .afxor32 _ _ _ => none

/-- A read of the register r may answer v (rule R22): r holds v, or it holds no value and any value may be read. -/
abbrev State.mayRead (s : State) (r : Reg) (v : Word) : Prop :=
  s.regs.get r = some v ∨ s.regs.get r = none ∧ s.params.uninit = .any

/-- A socket-filter load may ask for the packet index k (rules R245 to R251): the signed immediate, or the low 32 bits of
the source register plus the sign-extended immediate, read as signed. -/
def packetIndex (s : State) (k : Int) : Instr → Prop
  | .addReg _ _ => False
  | .addImm _ _ => False
  | .subReg _ _ => False
  | .subImm _ _ => False
  | .mulReg _ _ => False
  | .mulImm _ _ => False
  | .divReg _ _ => False
  | .divImm _ _ => False
  | .modReg _ _ => False
  | .modImm _ _ => False
  | .andReg _ _ => False
  | .andImm _ _ => False
  | .orReg _ _ => False
  | .orImm _ _ => False
  | .xorReg _ _ => False
  | .xorImm _ _ => False
  | .lshReg _ _ => False
  | .lshImm _ _ => False
  | .rshReg _ _ => False
  | .rshImm _ _ => False
  | .arshReg _ _ => False
  | .arshImm _ _ => False
  | .neg _ => False
  | .movReg _ _ => False
  | .movImm _ _ => False
  | .movs8 _ _ => False
  | .movs16 _ _ => False
  | .movs32 _ _ => False
  | .add32Reg _ _ => False
  | .add32Imm _ _ => False
  | .sub32Reg _ _ => False
  | .sub32Imm _ _ => False
  | .mul32Reg _ _ => False
  | .mul32Imm _ _ => False
  | .div32Reg _ _ => False
  | .div32Imm _ _ => False
  | .mod32Reg _ _ => False
  | .mod32Imm _ _ => False
  | .and32Reg _ _ => False
  | .and32Imm _ _ => False
  | .or32Reg _ _ => False
  | .or32Imm _ _ => False
  | .xor32Reg _ _ => False
  | .xor32Imm _ _ => False
  | .lsh32Reg _ _ => False
  | .lsh32Imm _ _ => False
  | .rsh32Reg _ _ => False
  | .rsh32Imm _ _ => False
  | .arsh32Reg _ _ => False
  | .arsh32Imm _ _ => False
  | .neg32 _ => False
  | .mov32Reg _ _ => False
  | .mov32Imm _ _ => False
  | .mov32s8 _ _ => False
  | .mov32s16 _ _ => False
  | .mov32s32 _ _ => False
  | .endle16 _ => False
  | .endle32 _ => False
  | .endle64 _ => False
  | .endbe16 _ => False
  | .endbe32 _ => False
  | .endbe64 _ => False
  | .bswap16 _ => False
  | .bswap32 _ => False
  | .bswap64 _ => False
  | .lddw _ _ => False
  | .ldabsw imm => k = imm.toInt
  | .ldabsh imm => k = imm.toInt
  | .ldabsb imm => k = imm.toInt
  | .ldindw rs imm => ∃ x, s.mayRead rs x ∧ k = (BitVec.ofInt 32 (x.toInt + imm.toInt)).toInt
  | .ldindh rs imm => ∃ x, s.mayRead rs x ∧ k = (BitVec.ofInt 32 (x.toInt + imm.toInt)).toInt
  | .ldindb rs imm => ∃ x, s.mayRead rs x ∧ k = (BitVec.ofInt 32 (x.toInt + imm.toInt)).toInt
  | .ldxdw _ _ _ => False
  | .ldxw _ _ _ => False
  | .ldxh _ _ _ => False
  | .ldxb _ _ _ => False
  | .ldxsdw _ _ _ => False
  | .ldxsw _ _ _ => False
  | .ldxsh _ _ _ => False
  | .ldxsb _ _ _ => False
  | .stxdw _ _ _ => False
  | .stxw _ _ _ => False
  | .stxh _ _ _ => False
  | .stxb _ _ _ => False
  | .stdw _ _ _ => False
  | .stw _ _ _ => False
  | .sth _ _ _ => False
  | .stb _ _ _ => False
  | .ja _ => False
  | .jal _ => False
  | .jeqReg _ _ _ => False
  | .jeqImm _ _ _ => False
  | .jgtReg _ _ _ => False
  | .jgtImm _ _ _ => False
  | .jgeReg _ _ _ => False
  | .jgeImm _ _ _ => False
  | .jltReg _ _ _ => False
  | .jltImm _ _ _ => False
  | .jleReg _ _ _ => False
  | .jleImm _ _ _ => False
  | .jsetReg _ _ _ => False
  | .jsetImm _ _ _ => False
  | .jneReg _ _ _ => False
  | .jneImm _ _ _ => False
  | .jsgtReg _ _ _ => False
  | .jsgtImm _ _ _ => False
  | .jsgeReg _ _ _ => False
  | .jsgeImm _ _ _ => False
  | .jsltReg _ _ _ => False
  | .jsltImm _ _ _ => False
  | .jsleReg _ _ _ => False
  | .jsleImm _ _ _ => False
  | .callLocal _ => False
  | .callHelper _ => False
  | .exit => False
  | .jeq32Reg _ _ _ => False
  | .jeq32Imm _ _ _ => False
  | .jgt32Reg _ _ _ => False
  | .jgt32Imm _ _ _ => False
  | .jge32Reg _ _ _ => False
  | .jge32Imm _ _ _ => False
  | .jlt32Reg _ _ _ => False
  | .jlt32Imm _ _ _ => False
  | .jle32Reg _ _ _ => False
  | .jle32Imm _ _ _ => False
  | .jset32Reg _ _ _ => False
  | .jset32Imm _ _ _ => False
  | .jne32Reg _ _ _ => False
  | .jne32Imm _ _ _ => False
  | .jsgt32Reg _ _ _ => False
  | .jsgt32Imm _ _ _ => False
  | .jsge32Reg _ _ _ => False
  | .jsge32Imm _ _ _ => False
  | .jslt32Reg _ _ _ => False
  | .jslt32Imm _ _ _ => False
  | .jsle32Reg _ _ _ => False
  | .jsle32Imm _ _ _ => False
  | .acmp _ _ _ => False
  | .axchg _ _ _ => False
  | .aadd _ _ _ => False
  | .aor _ _ _ => False
  | .aand _ _ _ => False
  | .axor _ _ _ => False
  | .afadd _ _ _ => False
  | .afor _ _ _ => False
  | .afand _ _ _ => False
  | .afxor _ _ _ => False
  | .acmp32 _ _ _ => False
  | .axchg32 _ _ _ => False
  | .aadd32 _ _ _ => False
  | .aor32 _ _ _ => False
  | .aand32 _ _ _ => False
  | .axor32 _ _ _ => False
  | .afadd32 _ _ _ => False
  | .afor32 _ _ _ => False
  | .afand32 _ _ _ => False
  | .afxor32 _ _ _ => False

/-- The address the data-memory access of an instruction goes to, `(x[base] + sext_64(offset16))[63:0]` (rule R54), and
its number of bytes. A base without a value is the free value of the first read, as under `UNINIT = any`. -/
def accessRange (i : Instr) (s : State) : Option (Nat × Nat × AccessKind) :=
  (dataAccess i).map fun (r, off, n, k) =>
    ((effectiveAddress ((s.regs.get r).getD (Config.uninitRead s.params.run s.draws)) off).toNat, n, k)

/-! ### Accesses as the memory rules put them -/

/-- The n bytes at address a lie inside one single region that is readable (if a read is asked) and writable (if a write
is asked), and do not run past 2^64 (rules R51, R57, R58). -/
abbrev InRegion (p : Params) (a n : Nat) (k : AccessKind) : Prop :=
  a + n ≤ 2 ^ 64 ∧ ∃ r ∈ p.regions, r.base.toNat ≤ a ∧ a + n ≤ r.base.toNat + r.len ∧
    (k ≠ .write → r.readable = true) ∧ (k ≠ .read → r.writable = true)

/-- An access is performed: it is aligned and inside a region, or it is a misaligned load or store under `ALIGN = split`
whose every byte is inside a region (rules R56 to R59). -/
abbrev CanAccess (p : Params) (a n : Nat) (k : AccessKind) : Prop :=
  (a % n = 0 ∧ InRegion p a n k) ∨
  (a % n ≠ 0 ∧ k ≠ .readwrite ∧ p.align = .split ∧ ∀ i < n, InRegion p (a + i) 1 k)

/-- The address of the byte that holds bits 8i+7 to 8i of an n-byte value at a (rule R60). -/
def byteAddress (e : Endian) (a n i : Nat) : Nat :=
  match e with
  | .little => a + i
  | .big => a + (n - 1 - i)

/-- The n-byte number in memory at a, as a sum over its bytes (rule R60). -/
def memNat (s : State) (a n : Nat) : Nat :=
  ((List.range n).map fun i => (s.byteAt (byteAddress s.params.endian a n i)).toNat * 256 ^ i).sum

/-- The byte that a list of writes, done in turn, leaves at an address; none when it writes nothing there. -/
def lastWrite (cs : List Host.Cell) (a : Nat) : Option Byte := ((cs.filter fun c => c.1 == a).getLast?).map Prod.snd

/-- Memory after the listed writes in turn, those at addresses outside `here` left out. -/
def afterWrites (here : Nat → Bool) (cs : List Host.Cell) (mem : Nat → Byte) (a : Nat) : Byte :=
  if here a = true then (lastWrite cs a).getD (mem a) else mem a

/-- `HELPERS[id](args, mem, v, mem')` for the relation r of that entry: some choice of the helper gives the result v and
the memory mem', in which only mapped bytes can have changed (rules R7, R316). -/
def HelperRelates (p : Params) (r : HelperRel) (args : List (Option Word)) (mem : Nat → Byte) (v : Word)
    (mem' : Nat → Byte) : Prop :=
  ∃ ws, v = (outcomeOf r ws args mem).result ∧ mem' = afterWrites (isMapped p) (outcomeOf r ws args mem).writes mem

/-- `ENV(mem, mem')`: some choice of the environment gives one move from mem to mem', in which only shared bytes can have
changed (rules R7, R68). -/
def EnvRelates (p : Params) (mem mem' : Nat → Byte) : Prop :=
  ∃ ws, mem' = afterWrites (isShared p) (envCells p.env ws mem) mem

/-- The outcome is a next state in which memory holds the n-byte number v at a (rule R60) and every byte outside reads as
before, the registers are `regs`, pc is at the next slot, and nothing else has changed. -/
def StoresAndGoesOn (s : State) (o : Host.Outcome State Fault Refusal) (a n v : Nat) (regs : RegFile) : Prop :=
  ∃ t, o = .next t ∧ t = { s with mem := t.mem, regs := regs, pc := s.pc + 1 } ∧
    (∀ i < n, t.byteAt (byteAddress s.params.endian a n i) = BitVec.ofNat 8 (v / 256 ^ i)) ∧
    ∀ b, b < a ∨ a + n ≤ b → t.byteAt b = s.byteAt b

/-- The outcome is a next state in which rd holds v, pc is at the next slot, and nothing else has changed. -/
def wrote (s : State) (rd : Reg) (v : Word) : Host.Outcome State Fault Refusal :=
  .next { s with regs := s.regs.set rd v, pc := s.pc + 1 }

/-- The outcome is a next state in which only pc has changed: to the target of the displacement if the condition holds,
else to the next slot (rule R290). -/
def jumped (s : State) (taken : Bool) (d : Int) : Host.Outcome State Fault Refusal :=
  .next { s with pc := s.pc + 1 + (if taken then d else 0) }

/-- The outcome is the fault with the given cause, taken in s: the status alone has changed (rules R400, R409). -/
def faulted (s : State) (c : FaultCause) : Host.Outcome State Fault Refusal :=
  .next { s with status := .faulted c s.pc }

/-- The number whose k bytes are the low k bytes of v in the opposite order (rule R220). -/
def reverseBytes : Nat → Nat → Nat
  | 0, _ => 0
  | k + 1, v => v % 256 * 256 ^ k + reverseBytes k (v / 256)

/-! ### The opcode table -/

/-- The mask and the match of the row of spec/opcode_table.json that a constructor stands for (rule R108). -/
def tableRow : Instr → BitVec 64 × BitVec 64
  | .addReg _ _ => (0xFFFFFFFFFFFF00FF, 0x000000000000000F)
  | .addImm _ _ => (0x00000000FFFFF0FF, 0x0000000000000007)
  | .subReg _ _ => (0xFFFFFFFFFFFF00FF, 0x000000000000001F)
  | .subImm _ _ => (0x00000000FFFFF0FF, 0x0000000000000017)
  | .mulReg _ _ => (0xFFFFFFFFFFFF00FF, 0x000000000000002F)
  | .mulImm _ _ => (0x00000000FFFFF0FF, 0x0000000000000027)
  | .divReg _ _ => (0xFFFFFFFFFFFF00FF, 0x000000000000003F)
  | .divImm _ _ => (0x00000000FFFFF0FF, 0x0000000000000037)
  | .modReg _ _ => (0xFFFFFFFFFFFF00FF, 0x000000000000009F)
  | .modImm _ _ => (0x00000000FFFFF0FF, 0x0000000000000097)
  | .andReg _ _ => (0xFFFFFFFFFFFF00FF, 0x000000000000005F)
  | .andImm _ _ => (0x00000000FFFFF0FF, 0x0000000000000057)
  | .orReg _ _ => (0xFFFFFFFFFFFF00FF, 0x000000000000004F)
  | .orImm _ _ => (0x00000000FFFFF0FF, 0x0000000000000047)
  | .xorReg _ _ => (0xFFFFFFFFFFFF00FF, 0x00000000000000AF)
  | .xorImm _ _ => (0x00000000FFFFF0FF, 0x00000000000000A7)
  | .lshReg _ _ => (0xFFFFFFFFFFFF00FF, 0x000000000000006F)
  | .lshImm _ _ => (0x00000000FFFFF0FF, 0x0000000000000067)
  | .rshReg _ _ => (0xFFFFFFFFFFFF00FF, 0x000000000000007F)
  | .rshImm _ _ => (0x00000000FFFFF0FF, 0x0000000000000077)
  | .arshReg _ _ => (0xFFFFFFFFFFFF00FF, 0x00000000000000CF)
  | .arshImm _ _ => (0x00000000FFFFF0FF, 0x00000000000000C7)
  | .neg _ => (0xFFFFFFFFFFFFF0FF, 0x0000000000000087)
  | .movReg _ _ => (0xFFFFFFFFFFFF00FF, 0x00000000000000BF)
  | .movImm _ _ => (0x00000000FFFFF0FF, 0x00000000000000B7)
  | .movs8 _ _ => (0xFFFFFFFFFFFF00FF, 0x00000000000800BF)
  | .movs16 _ _ => (0xFFFFFFFFFFFF00FF, 0x00000000001000BF)
  | .movs32 _ _ => (0xFFFFFFFFFFFF00FF, 0x00000000002000BF)
  | .add32Reg _ _ => (0xFFFFFFFFFFFF00FF, 0x000000000000000C)
  | .add32Imm _ _ => (0x00000000FFFFF0FF, 0x0000000000000004)
  | .sub32Reg _ _ => (0xFFFFFFFFFFFF00FF, 0x000000000000001C)
  | .sub32Imm _ _ => (0x00000000FFFFF0FF, 0x0000000000000014)
  | .mul32Reg _ _ => (0xFFFFFFFFFFFF00FF, 0x000000000000002C)
  | .mul32Imm _ _ => (0x00000000FFFFF0FF, 0x0000000000000024)
  | .div32Reg _ _ => (0xFFFFFFFFFFFF00FF, 0x000000000000003C)
  | .div32Imm _ _ => (0x00000000FFFFF0FF, 0x0000000000000034)
  | .mod32Reg _ _ => (0xFFFFFFFFFFFF00FF, 0x000000000000009C)
  | .mod32Imm _ _ => (0x00000000FFFFF0FF, 0x0000000000000094)
  | .and32Reg _ _ => (0xFFFFFFFFFFFF00FF, 0x000000000000005C)
  | .and32Imm _ _ => (0x00000000FFFFF0FF, 0x0000000000000054)
  | .or32Reg _ _ => (0xFFFFFFFFFFFF00FF, 0x000000000000004C)
  | .or32Imm _ _ => (0x00000000FFFFF0FF, 0x0000000000000044)
  | .xor32Reg _ _ => (0xFFFFFFFFFFFF00FF, 0x00000000000000AC)
  | .xor32Imm _ _ => (0x00000000FFFFF0FF, 0x00000000000000A4)
  | .lsh32Reg _ _ => (0xFFFFFFFFFFFF00FF, 0x000000000000006C)
  | .lsh32Imm _ _ => (0x00000000FFFFF0FF, 0x0000000000000064)
  | .rsh32Reg _ _ => (0xFFFFFFFFFFFF00FF, 0x000000000000007C)
  | .rsh32Imm _ _ => (0x00000000FFFFF0FF, 0x0000000000000074)
  | .arsh32Reg _ _ => (0xFFFFFFFFFFFF00FF, 0x00000000000000CC)
  | .arsh32Imm _ _ => (0x00000000FFFFF0FF, 0x00000000000000C4)
  | .neg32 _ => (0xFFFFFFFFFFFFF0FF, 0x0000000000000084)
  | .mov32Reg _ _ => (0xFFFFFFFFFFFF00FF, 0x00000000000000BC)
  | .mov32Imm _ _ => (0x00000000FFFFF0FF, 0x00000000000000B4)
  | .mov32s8 _ _ => (0xFFFFFFFFFFFF00FF, 0x00000000000800BC)
  | .mov32s16 _ _ => (0xFFFFFFFFFFFF00FF, 0x00000000001000BC)
  | .mov32s32 _ _ => (0xFFFFFFFFFFFF00FF, 0x00000000002000BC)
  | .endle16 _ => (0xFFFFFFFFFFFFF0FF, 0x00000010000000D4)
  | .endle32 _ => (0xFFFFFFFFFFFFF0FF, 0x00000020000000D4)
  | .endle64 _ => (0xFFFFFFFFFFFFF0FF, 0x00000040000000D4)
  | .endbe16 _ => (0xFFFFFFFFFFFFF0FF, 0x00000010000000DC)
  | .endbe32 _ => (0xFFFFFFFFFFFFF0FF, 0x00000020000000DC)
  | .endbe64 _ => (0xFFFFFFFFFFFFF0FF, 0x00000040000000DC)
  | .bswap16 _ => (0xFFFFFFFFFFFFF0FF, 0x00000010000000D7)
  | .bswap32 _ => (0xFFFFFFFFFFFFF0FF, 0x00000020000000D7)
  | .bswap64 _ => (0xFFFFFFFFFFFFF0FF, 0x00000040000000D7)
  | .lddw _ _ => (0x00000000FFFFF0FF, 0x0000000000000018)
  | .ldabsw _ => (0x00000000FFFFFFFF, 0x0000000000000020)
  | .ldabsh _ => (0x00000000FFFFFFFF, 0x0000000000000028)
  | .ldabsb _ => (0x00000000FFFFFFFF, 0x0000000000000030)
  | .ldindw _ _ => (0x00000000FFFF0FFF, 0x0000000000000040)
  | .ldindh _ _ => (0x00000000FFFF0FFF, 0x0000000000000048)
  | .ldindb _ _ => (0x00000000FFFF0FFF, 0x0000000000000050)
  | .ldxdw _ _ _ => (0xFFFFFFFF000000FF, 0x0000000000000079)
  | .ldxw _ _ _ => (0xFFFFFFFF000000FF, 0x0000000000000061)
  | .ldxh _ _ _ => (0xFFFFFFFF000000FF, 0x0000000000000069)
  | .ldxb _ _ _ => (0xFFFFFFFF000000FF, 0x0000000000000071)
  | .ldxsdw _ _ _ => (0xFFFFFFFF000000FF, 0x0000000000000099)
  | .ldxsw _ _ _ => (0xFFFFFFFF000000FF, 0x0000000000000081)
  | .ldxsh _ _ _ => (0xFFFFFFFF000000FF, 0x0000000000000089)
  | .ldxsb _ _ _ => (0xFFFFFFFF000000FF, 0x0000000000000091)
  | .stxdw _ _ _ => (0xFFFFFFFF000000FF, 0x000000000000007B)
  | .stxw _ _ _ => (0xFFFFFFFF000000FF, 0x0000000000000063)
  | .stxh _ _ _ => (0xFFFFFFFF000000FF, 0x000000000000006B)
  | .stxb _ _ _ => (0xFFFFFFFF000000FF, 0x0000000000000073)
  | .stdw _ _ _ => (0x000000000000F0FF, 0x000000000000007A)
  | .stw _ _ _ => (0x000000000000F0FF, 0x0000000000000062)
  | .sth _ _ _ => (0x000000000000F0FF, 0x000000000000006A)
  | .stb _ _ _ => (0x000000000000F0FF, 0x0000000000000072)
  | .ja _ => (0xFFFFFFFF0000FFFF, 0x0000000000000005)
  | .jal _ => (0x00000000FFFFFFFF, 0x0000000000000006)
  | .jeqReg _ _ _ => (0xFFFFFFFF000000FF, 0x000000000000001D)
  | .jeqImm _ _ _ => (0x000000000000F0FF, 0x0000000000000015)
  | .jgtReg _ _ _ => (0xFFFFFFFF000000FF, 0x000000000000002D)
  | .jgtImm _ _ _ => (0x000000000000F0FF, 0x0000000000000025)
  | .jgeReg _ _ _ => (0xFFFFFFFF000000FF, 0x000000000000003D)
  | .jgeImm _ _ _ => (0x000000000000F0FF, 0x0000000000000035)
  | .jltReg _ _ _ => (0xFFFFFFFF000000FF, 0x00000000000000AD)
  | .jltImm _ _ _ => (0x000000000000F0FF, 0x00000000000000A5)
  | .jleReg _ _ _ => (0xFFFFFFFF000000FF, 0x00000000000000BD)
  | .jleImm _ _ _ => (0x000000000000F0FF, 0x00000000000000B5)
  | .jsetReg _ _ _ => (0xFFFFFFFF000000FF, 0x000000000000004D)
  | .jsetImm _ _ _ => (0x000000000000F0FF, 0x0000000000000045)
  | .jneReg _ _ _ => (0xFFFFFFFF000000FF, 0x000000000000005D)
  | .jneImm _ _ _ => (0x000000000000F0FF, 0x0000000000000055)
  | .jsgtReg _ _ _ => (0xFFFFFFFF000000FF, 0x000000000000006D)
  | .jsgtImm _ _ _ => (0x000000000000F0FF, 0x0000000000000065)
  | .jsgeReg _ _ _ => (0xFFFFFFFF000000FF, 0x000000000000007D)
  | .jsgeImm _ _ _ => (0x000000000000F0FF, 0x0000000000000075)
  | .jsltReg _ _ _ => (0xFFFFFFFF000000FF, 0x00000000000000CD)
  | .jsltImm _ _ _ => (0x000000000000F0FF, 0x00000000000000C5)
  | .jsleReg _ _ _ => (0xFFFFFFFF000000FF, 0x00000000000000DD)
  | .jsleImm _ _ _ => (0x000000000000F0FF, 0x00000000000000D5)
  | .callLocal _ => (0x00000000FFFFFFFF, 0x0000000000001085)
  | .callHelper _ => (0x00000000FFFFFFFF, 0x0000000000000085)
  | .exit => (0xFFFFFFFFFFFFFFFF, 0x0000000000000095)
  | .jeq32Reg _ _ _ => (0xFFFFFFFF000000FF, 0x000000000000001E)
  | .jeq32Imm _ _ _ => (0x000000000000F0FF, 0x0000000000000016)
  | .jgt32Reg _ _ _ => (0xFFFFFFFF000000FF, 0x000000000000002E)
  | .jgt32Imm _ _ _ => (0x000000000000F0FF, 0x0000000000000026)
  | .jge32Reg _ _ _ => (0xFFFFFFFF000000FF, 0x000000000000003E)
  | .jge32Imm _ _ _ => (0x000000000000F0FF, 0x0000000000000036)
  | .jlt32Reg _ _ _ => (0xFFFFFFFF000000FF, 0x00000000000000AE)
  | .jlt32Imm _ _ _ => (0x000000000000F0FF, 0x00000000000000A6)
  | .jle32Reg _ _ _ => (0xFFFFFFFF000000FF, 0x00000000000000BE)
  | .jle32Imm _ _ _ => (0x000000000000F0FF, 0x00000000000000B6)
  | .jset32Reg _ _ _ => (0xFFFFFFFF000000FF, 0x000000000000004E)
  | .jset32Imm _ _ _ => (0x000000000000F0FF, 0x0000000000000046)
  | .jne32Reg _ _ _ => (0xFFFFFFFF000000FF, 0x000000000000005E)
  | .jne32Imm _ _ _ => (0x000000000000F0FF, 0x0000000000000056)
  | .jsgt32Reg _ _ _ => (0xFFFFFFFF000000FF, 0x000000000000006E)
  | .jsgt32Imm _ _ _ => (0x000000000000F0FF, 0x0000000000000066)
  | .jsge32Reg _ _ _ => (0xFFFFFFFF000000FF, 0x000000000000007E)
  | .jsge32Imm _ _ _ => (0x000000000000F0FF, 0x0000000000000076)
  | .jslt32Reg _ _ _ => (0xFFFFFFFF000000FF, 0x00000000000000CE)
  | .jslt32Imm _ _ _ => (0x000000000000F0FF, 0x00000000000000C6)
  | .jsle32Reg _ _ _ => (0xFFFFFFFF000000FF, 0x00000000000000DE)
  | .jsle32Imm _ _ _ => (0x000000000000F0FF, 0x00000000000000D6)
  | .acmp _ _ _ => (0xFFFFFFFF000000FF, 0x000000F1000000DB)
  | .axchg _ _ _ => (0xFFFFFFFF000000FF, 0x000000E1000000DB)
  | .aadd _ _ _ => (0xFFFFFFFF000000FF, 0x00000000000000DB)
  | .aor _ _ _ => (0xFFFFFFFF000000FF, 0x00000040000000DB)
  | .aand _ _ _ => (0xFFFFFFFF000000FF, 0x00000050000000DB)
  | .axor _ _ _ => (0xFFFFFFFF000000FF, 0x000000A0000000DB)
  | .afadd _ _ _ => (0xFFFFFFFF000000FF, 0x00000001000000DB)
  | .afor _ _ _ => (0xFFFFFFFF000000FF, 0x00000041000000DB)
  | .afand _ _ _ => (0xFFFFFFFF000000FF, 0x00000051000000DB)
  | .afxor _ _ _ => (0xFFFFFFFF000000FF, 0x000000A1000000DB)
  | .acmp32 _ _ _ => (0xFFFFFFFF000000FF, 0x000000F1000000C3)
  | .axchg32 _ _ _ => (0xFFFFFFFF000000FF, 0x000000E1000000C3)
  | .aadd32 _ _ _ => (0xFFFFFFFF000000FF, 0x00000000000000C3)
  | .aor32 _ _ _ => (0xFFFFFFFF000000FF, 0x00000040000000C3)
  | .aand32 _ _ _ => (0xFFFFFFFF000000FF, 0x00000050000000C3)
  | .axor32 _ _ _ => (0xFFFFFFFF000000FF, 0x000000A0000000C3)
  | .afadd32 _ _ _ => (0xFFFFFFFF000000FF, 0x00000001000000C3)
  | .afor32 _ _ _ => (0xFFFFFFFF000000FF, 0x00000041000000C3)
  | .afand32 _ _ _ => (0xFFFFFFFF000000FF, 0x00000051000000C3)
  | .afxor32 _ _ _ => (0xFFFFFFFF000000FF, 0x000000A1000000C3)

end Sys2Proof.Machine
end

