-- ==== Sys2Proof/Certificates/Slice0/Obligations.lean ====
section
/-! DEFINITION. The statements about the machine, for the provers. -/

open Sys2Proof Sys2Proof.Machine

/-- On a machine of any version, in either byte order: the slots of the encoding of every well-formed instruction,
whatever slots follow them in the program text, decode to that instruction, with every operand at every value its
field admits. -/
def Obligations.DecodeOfEncode : Prop :=
  ∀ (version : Nat) (e : Endian) (i : Instr) (rest : List Slot), i.wellFormed version = true →
    decodeSlots version e (encodeSlots e i ++ rest) = .ok i

/-- On a machine of any version, in either byte order: when slots decode to an instruction, the instruction is well-
formed for that version, its encoding is exactly the slots at the front (so every unused field was zero and no two
different slots decode to the same instruction), and the word W of its first slot matches the row of the opcode table
that the constructor stands for. -/
def Obligations.EncodeOfDecode : Prop :=
  ∀ (version : Nat) (e : Endian) (i : Instr) (slots : List Slot), decodeSlots version e slots = .ok i →
    i.wellFormed version = true ∧
    encodeSlots e i = slots.take (encodeSlots e i).length ∧
    (∀ sl ∈ slots.head?, (sl.fields e).word &&& (tableRow i).1 = (tableRow i).2)

/-- The table words of mov r1, r2; add r1, -1; exit; call 7 (helper); call 2 (local); ja 3; acmp [r1 + 0], r2 and
bswap r1, 16 decode to these instructions (a sanity statement on fixed words). -/
def Obligations.DecodeSanity : Prop :=
  decodeTableWord 64 0x00000000000021BF = some (.movReg .r1 .r2) ∧
  decodeTableWord 64 0xFFFFFFFF00000107 = some (.addImm .r1 0xFFFFFFFF) ∧
  decodeTableWord 64 0x0000000000000095 = some .exit ∧
  decodeTableWord 64 0x0000000700000085 = some (.callHelper 7) ∧
  decodeTableWord 64 0x0000000200001085 = some (.callLocal 2) ∧
  decodeTableWord 64 0x0000000000030005 = some (.ja 3) ∧
  decodeTableWord 64 0x000000F1000021DB = some (.acmp .r1 .r2 0) ∧
  decodeTableWord 64 0x00000010000001D7 = some (.bswap16 .r1)

/-- For every running state whose pc is inside the program, with W the word of the slot at pc: if the slots at pc do
not decode, whatever the reason, the step answers the fault IllegalInstruction(W) at that pc, and nothing but the
status has changed since ENV acted before the instruction. It does so in particular if W matches no row of the opcode
table (mask and match copied from it); if dst or src is above 10; if dst is 10 in an instruction of the classes ALU,
ALU64 and LDX or lddw, or src is 10 in a fetching atomic or an exchange; if ISA_VERSION is below 3 and the slot is a
conditional jump of class JMP32 or an atomic other than aadd and aadd32; if it is an lddw in the last slot of the
program or one whose second slot has a non-zero opcode, register byte or offset. (That ENV acts at the start of a
step, and that what it did stays over a fault, is the model's form: logs 6 and 19; that a fault is a next state: log
8.) -/
def Obligations.NoRowIsIllegal : Prop :=
  ∀ (s : State) (sl : Slot) (rest : List Slot) (f : Fields), s.status = .running → s.text = sl :: rest →
    f = sl.fields s.params.endian →
    (∀ x, decodeSlots s.params.isaVersion s.params.endian (sl :: rest) = .error x →
      step s = faulted s.envStep (.illegalInstruction f.word)) ∧
    ((∀ i, f.word &&& (tableRow i).1 ≠ (tableRow i).2) → step s = faulted s.envStep (.illegalInstruction f.word)) ∧
    (10 < f.dst.toNat ∨ 10 < f.src.toNat → step s = faulted s.envStep (.illegalInstruction f.word)) ∧
    (f.dst = 10 → (f.opcode.extractLsb' 0 3 = 4 ∨ f.opcode.extractLsb' 0 3 = 7 ∨ f.opcode.extractLsb' 0 3 = 1 ∨
      f.opcode = 0x18) → step s = faulted s.envStep (.illegalInstruction f.word)) ∧
    (f.src = 10 → (f.opcode = 0xC3 ∨ f.opcode = 0xDB) →
      (f.imm = 0x01 ∨ f.imm = 0x41 ∨ f.imm = 0x51 ∨ f.imm = 0xA1 ∨ f.imm = 0xE1) →
      step s = faulted s.envStep (.illegalInstruction f.word)) ∧
    (s.params.isaVersion < 3 →
      ((f.opcode.extractLsb' 0 3 = 6 ∧ f.opcode ≠ 0x06) ∨ ((f.opcode = 0xC3 ∨ f.opcode = 0xDB) ∧ f.imm ≠ 0)) →
      step s = faulted s.envStep (.illegalInstruction f.word)) ∧
    (f.opcode = 0x18 →
      (∀ nx ∈ rest.head?, (nx.fields s.params.endian).opcode ≠ 0 ∨ (nx.fields s.params.endian).dst ≠ 0 ∨
        (nx.fields s.params.endian).src ≠ 0 ∨ (nx.fields s.params.endian).offset ≠ 0) →
      step s = faulted s.envStep (.illegalInstruction f.word))

/-- On a machine of any version (3 or more where it says what is legal), whatever slot follows: with dst = 10 nothing
of the classes ALU, ALU64 (formats ALU-R, ALU-I, ALU-U, MOVS, END) and LDX, nor lddw, decodes; with src = 10 no
fetching atomic and no exchange decodes. With dst = 10 every instruction of the formats STX, ST, JCC-R and JCC-I and
every atomic whose source is not a written r10 decodes wherever it does with dst = 9, and so does a compare-and-swap
with src = 10. -/
def Obligations.WritesToR10AreIllegal : Prop :=
  (∀ (version : Nat) (f : Fields) (next : Option Fields) (i : Instr), f.dst = 10 →
    (f.opcode.extractLsb' 0 3 = 4 ∨ f.opcode.extractLsb' 0 3 = 7 ∨ f.opcode.extractLsb' 0 3 = 1 ∨ f.opcode = 0x18) →
    decode version f next ≠ .ok i) ∧
  (∀ (version : Nat) (f : Fields) (next : Option Fields) (i : Instr), f.src = 10 →
    (f.opcode = 0xC3 ∨ f.opcode = 0xDB) →
    (f.imm = 0x01 ∨ f.imm = 0x41 ∨ f.imm = 0x51 ∨ f.imm = 0xA1 ∨ f.imm = 0xE1) →
    decode version f next ≠ .ok i) ∧
  (∀ (version : Nat) (f : Fields) (next : Option Fields) (i : Instr), 3 ≤ version →
    (f.opcode.extractLsb' 0 3 = 2 ∨ f.opcode.extractLsb' 0 3 = 3 ∨ f.opcode.extractLsb' 0 3 = 5 ∨
      f.opcode.extractLsb' 0 3 = 6) →
    decode version { f with dst := 9 } next = .ok i → ∃ j, decode version { f with dst := 10 } next = .ok j) ∧
  (∀ (version : Nat) (f : Fields) (next : Option Fields) (i : Instr), (f.opcode = 0xC3 ∨ f.opcode = 0xDB) →
    f.imm = 0xF1 → decode version { f with src := 9 } next = .ok i →
    ∃ j, decode version { f with src := 10 } next = .ok j)

/-- On a machine of version 3 or more the encoding of every instruction that does not write r10 decodes to it, and
decoding does not depend on the version. Below 3, a slot of class JMP32 other than jal and an atomic slot whose
selector is not 0x00 decode to nothing; every other slot decodes as on version 3. -/
def Obligations.VersionGating : Prop :=
  (∀ (version : Nat) (e : Endian) (i : Instr) (rest : List Slot), 3 ≤ version → i.keepsR10 = true →
    decodeSlots version e (encodeSlots e i ++ rest) = .ok i) ∧
  (∀ (version : Nat) (f : Fields) (next : Option Fields), 3 ≤ version → decode version f next = decode 3 f next) ∧
  (∀ (version : Nat) (f : Fields) (next : Option Fields), version < 3 →
    ((f.opcode.extractLsb' 0 3 = 6 ∧ f.opcode ≠ 0x06) ∨ ((f.opcode = 0xC3 ∨ f.opcode = 0xDB) ∧ f.imm ≠ 0)) →
    ∀ i, decode version f next ≠ .ok i) ∧
  (∀ (version : Nat) (f : Fields) (next : Option Fields), version < 3 →
    ¬((f.opcode.extractLsb' 0 3 = 6 ∧ f.opcode ≠ 0x06) ∨ ((f.opcode = 0xC3 ∨ f.opcode = 0xDB) ∧ f.imm ≠ 0)) →
    decode version f next = decode 3 f next)

/-- For every running state: if the slots from index k on decode to an lddw and pc is k + 1, the step answers the
fault IllegalInstruction with the word of that slot, whose opcode byte is 0x00, and nothing but the status has changed
since ENV acted before the step. (That ENV acts at the start of a step, and that what it did stays over a fault, is
the model's form: logs 6 and 19; that a fault is a next state: log 8.) -/
def Obligations.LddwSecondSlot : Prop :=
  ∀ (s : State) (k : Nat) (rd : Reg) (imm : BitVec 64), s.status = .running →
    decodeSlots s.params.isaVersion s.params.endian (s.params.prog.drop k) = .ok (.lddw rd imm) → s.pc = k + 1 →
    ∃ sl, s.params.prog[k + 1]? = some sl ∧ (sl.fields s.params.endian).opcode = 0 ∧
      step s = faulted s.envStep (.illegalInstruction (sl.fields s.params.endian).word)

/-- For every running state with pc = k inside the program: when the slots from k on decode to an instruction, that
instruction is well-formed for the machine's version, k is below PROG_LEN, and the step is exec of it in the state
that ENV leaves before the instruction; when ENV is the identity, its default, it is exec of it in the state itself.
(That ENV acts at the start of a step is the model's form: logs 6 and 19.) -/
def Obligations.StepRunsDecoded : Prop :=
  ∀ (s : State) (k : Nat) (i : Instr), s.status = .running → s.pc = k →
    decodeSlots s.params.isaVersion s.params.endian (s.params.prog.drop k) = .ok i →
    i.wellFormed s.params.isaVersion = true ∧ k < s.params.prog.length ∧ step s = exec i s.envStep ∧
      (s.params.env = .identity → step s = exec i s)

/-- For every running state with pc < 0 or pc >= PROG_LEN the step answers the fault PcOutOfRange(pc), recording that
very pc, and nothing but the status has changed since ENV acted before the step. No step with pc inside the program
takes it, and no instruction itself does: a jump, call or return to a bad target sets pc, and the next step faults.
(That ENV acts at the start of a step, and that what it did stays over a fault, is the model's form: logs 6 and 19;
that a fault is a next state: log 8.) -/
def Obligations.PcOutOfRangeFaults : Prop :=
  (∀ s : State, s.status = .running → (s.pc < 0 ∨ (s.params.prog.length : Int) ≤ s.pc) →
    step s = faulted s.envStep (.pcOutOfRange s.pc)) ∧
  (∀ (s t : State) (q p : Int), s.status = .running → 0 ≤ s.pc → s.pc < s.params.prog.length → step s = .next t →
    t.status ≠ .faulted (.pcOutOfRange q) p) ∧
  (∀ (i : Instr) (s t : State) (q p : Int), s.status = .running → exec i s = .next t →
    t.status ≠ .faulted (.pcOutOfRange q) p)

/-- The step of every running state answers a next state; the step of every state whose status is Exited or Faulted
answers that the machine has stopped, with what the status records. (93_implementation_defined.md part 1: the step
relation is total on Running states, and Exited and Faulted states have no successor. That a fault taken is a next
state, and that a stopped machine answers the outcome fault, is the model's choice: log 8.) -/
def Obligations.StepTotalAndFinal : Prop :=
  (∀ s : State, s.status = .running → ∃ t, step s = .next t) ∧
  (∀ (s : State) (v : Word), s.status = .exited v → step s = .fault (.exited v)) ∧
  (∀ (s : State) (c : FaultCause) (p : Int), s.status = .faulted c p → step s = .fault (.faulted c p))

/-- For every state with the invariant Inv, if the step answers a next state then that state has Inv: memory is in its
canonical form and lists only addresses inside a region; the call stack is empty or below MAX_CALL_DEPTH; r10 is FP0
less depth times FRAME_STRIDE, and so is each saved r10; every saved return slot is at least 1 and at most PROG_LEN.
(The canonical form of memory is the model's: log 4; so is the typing of r10 and its copies: log 18.) -/
def Obligations.StepKeepsInv : Prop :=
  ∀ s t : State, Inv s → step s = .next t → Inv t

/-- For all parameters, every initial memory in canonical form that lists only addresses inside a region, and whatever
draws of ENV and the helpers are fixed in advance, the launch state has Inv; and the model's reset state has it. (The
parameters of that reset are the model's choice: logs 1, 2 and 14; the forms of ENV, of the helpers and of their
draws: logs 5 and 6.) -/
def Obligations.InvAtLaunch : Prop :=
  (∀ (p : Params) (mem0 : Memory) (envDraws : List (List (List Word))) (helperDraws : List (List Word)), mem0.wf = true →
    (∀ c ∈ mem0, isMapped p c.1 = true) → Inv (State.launch p mem0 envDraws helperDraws)) ∧ Inv State.reset

/-- For every state, if the step answers a next state then the parameters of the run are as before: no store, atomic
or helper changes PROG, and the packet, the regions and the modes of the run stay the same. (The parameters stand in
State: log 7.) -/
def Obligations.ProgramNeverChanges : Prop :=
  ∀ s t : State, step s = .next t → t.params = s.params

/-- For every running state: if exec of an instruction answers a faulted state, then that state is the state before
with the status alone changed to Faulted(cause, pc) with the pc of the instruction; the same holds of a step, measured
from the state that ENV leaves before it; and a faulted machine takes no further step. (That ENV acts at the start of
a step, and that what it did stays over a fault, is the model's form: logs 6 and 19; that a fault is a next state and
a stopped machine answers the outcome fault: log 8.) -/
def Obligations.FaultsArePrecise : Prop :=
  (∀ (i : Instr) (s t : State) (c : FaultCause) (p : Int), s.status = .running → exec i s = .next t →
    t.status = .faulted c p → t = { s with status := .faulted c s.pc }) ∧
  (∀ (s t : State) (c : FaultCause) (p : Int), s.status = .running → step s = .next t →
    t.status = .faulted c p → t = { s.envStep with status := .faulted c s.pc }) ∧
  (∀ (s : State) (c : FaultCause) (p : Int), s.status = .faulted c p → step s = .fault (.faulted c p))

/-- For every running state: if the step answers a faulted state, it records the pc of the step, and: PcOutOfRange
only for a pc outside the program; IllegalInstruction only for slots that decode to nothing, with the word of the
first; CallDepthExceeded only by a local call at depth length(frames) + 1 >= MAX_CALL_DEPTH, with that depth;
UnknownHelper only by a helper call whose number is not in the domain; UninitRegisterRead only for a register the
instruction reads that holds no value, under UNINIT = fault; MisalignedAccess only for a misaligned data access,
atomic or under ALIGN = strict; MemoryAccessFault only for a data access that may not be performed, or for a packet
load whose r6 is not CTX; accesses are those of the instruction in the state that ENV leaves before it. The causes
have the codes 1 to 7. (That a split access which faults records the address and size of the whole access is the
model's reading: log 9, DEDUCED; that a fault is a next state: log 8; that ENV acts at the start of a step: logs 6 and
19.) -/
def Obligations.FaultCauses : Prop :=
  (∀ (s t : State) (c : FaultCause) (p : Int), s.status = .running → step s = .next t → t.status = .faulted c p →
    p = s.pc ∧
    match c with
    | .pcOutOfRange q => q = s.pc ∧ ¬(0 ≤ s.pc ∧ s.pc < s.params.prog.length)
    | .illegalInstruction w => ∃ sl rest x, s.text = sl :: rest ∧ w = (sl.fields s.params.endian).word ∧
        decodeSlots s.params.isaVersion s.params.endian (sl :: rest) = .error x
    | .callDepthExceeded d => d = s.frames.length + 1 ∧ s.params.maxCallDepth ≤ d ∧
        ∃ disp, fetchInstr s = .ok (.callLocal disp)
    | .unknownHelper id => (∀ e ∈ s.params.helpers, e.1 ≠ id) ∧ fetchInstr s = .ok (.callHelper id)
    | .uninitRegisterRead r => s.regs.get r = none ∧ s.params.uninit = .fault ∧
        ∃ i, fetchInstr s = .ok i ∧ r ∈ readOrder i
    | .misalignedAccess ea n => ea.toNat % n ≠ 0 ∧ ∃ i k, fetchInstr s = .ok i ∧
        accessRange i s.envStep = some (ea.toNat, n, k) ∧ (k = .readwrite ∨ s.params.align = .strict)
    | .memoryAccessFault ea n k => ∃ i, fetchInstr s = .ok i ∧
        ((accessRange i s.envStep = some (ea.toNat, n, k) ∧ ¬CanAccess s.params ea.toNat n k) ∨
         (packetBytes i = some n ∧ k = .read ∧ ea ≠ s.params.ctx ∧
           s.mayRead .r6 ea))) ∧
  (∀ (q : Int) (w : Word) (d : Nat) (id : BitVec 32) (r : Reg) (n : Nat) (k : AccessKind),
    FaultCause.code (.pcOutOfRange q) = 1 ∧ FaultCause.code (.illegalInstruction w) = 2 ∧
    FaultCause.code (.callDepthExceeded d) = 3 ∧ FaultCause.code (.unknownHelper id) = 4 ∧
    FaultCause.code (.uninitRegisterRead r) = 5 ∧ FaultCause.code (.misalignedAccess w n) = 6 ∧
    FaultCause.code (.memoryAccessFault w n k) = 7)

/-- If exec of an instruction in a running state answers a state whose status is Exited(v), then either the
instruction is exit, the call stack is empty and v is what a read of r0 may answer, or it is a socket-filter load of n
bytes, v is 0, r6 may be read as CTX, and the index k it may ask for (the signed immediate, or the low 32 bits of the
source register plus the sign-extended immediate, read as signed) is negative or k + n exceeds the length of the
packet; and nothing but the status (and the model's count of free values: log 15) has changed. (A register without a
value may be read as any value under UNINIT = any.) -/
def Obligations.OnlyExitAndPacketEndTheRun : Prop :=
  ∀ (i : Instr) (s t : State) (v : Word), s.status = .running → exec i s = .next t → t.status = .exited v →
    ((i = .exit ∧ s.frames = [] ∧ s.mayRead .r0 v) ∨
     (v = 0 ∧ s.mayRead .r6 s.params.ctx ∧ ∃ n k, packetBytes i = some n ∧ packetIndex s k i ∧
       (k < 0 ∨ (s.params.packet.length : Int) < k + n))) ∧
    t = { s with status := .exited v, draws := t.draws }

/-- For every instruction and state: if exec answers a next state, every register that is neither the written operand
nor in the list of implicit register operands holds what it held (a value or no value). -/
def Obligations.RegistersChanged : Prop :=
  ∀ (i : Instr) (s t : State) (r : Reg), exec i s = .next t → r ∉ mayChange i → t.regs.get r = s.regs.get r

/-- For every instruction but the local call and exit, and every state: if exec answers a next state, r10 is as
before. (A term whose written operand is r10, which no encoding reaches, is in it by the model's choice: log 16.) -/
def Obligations.FramePointerReadOnly : Prop :=
  ∀ (i : Instr) (s t : State), exec i s = .next t → (∀ d, i ≠ .callLocal d) → i ≠ .exit → t.regs.r10 = s.regs.r10

/-- For every instruction but the helper call, and every state: if exec answers a next state, every byte outside the
bytes at the instruction's own access address (base register plus sign-extended offset, n bytes) reads as before, all
of memory when the access is a read, and for a misaligned access too (no ENV move falls inside a step: log 11). An
instruction without a data access leaves every byte. -/
def Obligations.MemoryChanged : Prop :=
  ∀ (i : Instr) (s t : State), exec i s = .next t → (∀ id, i ≠ .callHelper id) →
    (∀ a n k b, accessRange i s = some (a, n, k) → (k = .read ∨ b < a ∨ a + n ≤ b) → t.byteAt b = s.byteAt b) ∧
    (accessRange i s = none → t.mem = s.mem)

/-- For every instruction and state: if exec answers a next state, the call stack is as before, or the instruction is
a local call and one record is added at the end, or it is exit and the last record is gone. -/
def Obligations.CallStackChanged : Prop :=
  ∀ (i : Instr) (s t : State), exec i s = .next t →
    t.frames = s.frames ∨
    ((∃ d, i = .callLocal d) ∧ t.frames = s.frames ++ [s.callFrame]) ∨
    (i = .exit ∧ ∃ f, s.frames = t.frames ++ [f])

/-- For every instruction and state: if exec answers a next state, the parameters are as before, the count of free
values has not gone down, the draws fixed in advance for the helpers are as before unless the instruction is a helper
call, and those for ENV are as before: ENV acts between steps, never inside an instruction, a misaligned access among
them. A step under an ENV other than the identity takes just one draw for it: the first of those fixed in advance, or
a free value when none is left, so that ENV can act before every step of an endless run; under the identity it takes
none. (The draws are the model's own fields: logs 5, 6, 11, 15 and 19.) -/
def Obligations.SpecialStateUnchanged : Prop :=
  (∀ (i : Instr) (s t : State), exec i s = .next t →
    t.params = s.params ∧ s.draws ≤ t.draws ∧
    ((∀ id, i ≠ .callHelper id) → t.helperDraws = s.helperDraws) ∧ t.envDraws = s.envDraws) ∧
  (∀ s t : State, step s = .next t →
    (s.params.env = .identity → t.envDraws = s.envDraws) ∧
    (s.params.env ≠ .identity → t.envDraws = s.envDraws.tail ∧ (s.envDraws = [] → s.draws < t.draws)))

/-- In every state in which rd and rs hold values, each of add, sub, mul, div, mod, and, or, xor, lsh, rsh and arsh in
register form answers a next state in which rd holds the exact integer result (sum, difference, product, unsigned
quotient with 0 for a zero divisor, unsigned remainder with the dividend for a zero divisor, bitwise operation, shift
by the low 6 bits of rs, arithmetic shift of the signed value) modulo 2^64, pc is one more and nothing else has
changed. (r10 as rd, which no encoding has, is left as it is: the model's choice, log 16.) -/
def Obligations.Alu64RegisterForms : Prop :=
  ∀ (s : State) (rd rs : Reg) (a b : Word), s.regs.get rd = some a → s.regs.get rs = some b →
    exec (.addReg rd rs) s = wrote s rd (BitVec.ofNat 64 (a.toNat + b.toNat)) ∧
    exec (.subReg rd rs) s = wrote s rd (BitVec.ofNat 64 (a.toNat + (2 ^ 64 - b.toNat))) ∧
    exec (.mulReg rd rs) s = wrote s rd (BitVec.ofNat 64 (a.toNat * b.toNat)) ∧
    exec (.divReg rd rs) s = wrote s rd (if b.toNat = 0 then 0 else BitVec.ofNat 64 (a.toNat / b.toNat)) ∧
    exec (.modReg rd rs) s = wrote s rd (if b.toNat = 0 then a else BitVec.ofNat 64 (a.toNat % b.toNat)) ∧
    exec (.andReg rd rs) s = wrote s rd (BitVec.ofNat 64 (a.toNat &&& b.toNat)) ∧
    exec (.orReg rd rs) s = wrote s rd (BitVec.ofNat 64 (a.toNat ||| b.toNat)) ∧
    exec (.xorReg rd rs) s = wrote s rd (BitVec.ofNat 64 (a.toNat ^^^ b.toNat)) ∧
    exec (.lshReg rd rs) s = wrote s rd (BitVec.ofNat 64 (a.toNat * 2 ^ (b.toNat % 64))) ∧
    exec (.rshReg rd rs) s = wrote s rd (BitVec.ofNat 64 (a.toNat / 2 ^ (b.toNat % 64))) ∧
    exec (.arshReg rd rs) s = wrote s rd (BitVec.ofInt 64 (a.toInt / 2 ^ (b.toNat % 64)))

/-- In every state in which rd holds a value, each of add, sub, mul, div, mod, and, or, xor, lsh, rsh and arsh in
immediate form answers a next state in which rd holds the exact integer result with the immediate sign-extended to 64
bits as second operand (read as unsigned by div and mod), modulo 2^64, pc is one more and nothing else has changed.
(r10 as rd, which no encoding has, is left as it is: the model's choice, log 16.) -/
def Obligations.Alu64ImmediateForms : Prop :=
  ∀ (s : State) (rd : Reg) (imm : BitVec 32) (a b : Word), s.regs.get rd = some a → b = BitVec.ofInt 64 imm.toInt →
    exec (.addImm rd imm) s = wrote s rd (BitVec.ofNat 64 (a.toNat + b.toNat)) ∧
    exec (.subImm rd imm) s = wrote s rd (BitVec.ofNat 64 (a.toNat + (2 ^ 64 - b.toNat))) ∧
    exec (.mulImm rd imm) s = wrote s rd (BitVec.ofNat 64 (a.toNat * b.toNat)) ∧
    exec (.divImm rd imm) s = wrote s rd (if b.toNat = 0 then 0 else BitVec.ofNat 64 (a.toNat / b.toNat)) ∧
    exec (.modImm rd imm) s = wrote s rd (if b.toNat = 0 then a else BitVec.ofNat 64 (a.toNat % b.toNat)) ∧
    exec (.andImm rd imm) s = wrote s rd (BitVec.ofNat 64 (a.toNat &&& b.toNat)) ∧
    exec (.orImm rd imm) s = wrote s rd (BitVec.ofNat 64 (a.toNat ||| b.toNat)) ∧
    exec (.xorImm rd imm) s = wrote s rd (BitVec.ofNat 64 (a.toNat ^^^ b.toNat)) ∧
    exec (.lshImm rd imm) s = wrote s rd (BitVec.ofNat 64 (a.toNat * 2 ^ (b.toNat % 64))) ∧
    exec (.rshImm rd imm) s = wrote s rd (BitVec.ofNat 64 (a.toNat / 2 ^ (b.toNat % 64))) ∧
    exec (.arshImm rd imm) s = wrote s rd (BitVec.ofInt 64 (a.toInt / 2 ^ (b.toNat % 64)))

/-- In every state in which the source operand holds a value: neg writes the negated value modulo 2^64, mov copies rs
or the sign-extended immediate, movs at 8, 16 and 32 writes the signed value of the low 8, 16 or 32 bits of rs; pc is
one more and nothing else has changed. mov and movs do not ask that rd holds a value, and mov with an immediate asks
nothing. (r10 as rd, which no encoding has, is left as it is: the model's choice, log 16.) -/
def Obligations.Alu64Moves : Prop :=
  (∀ (s : State) (rd : Reg) (a : Word), s.regs.get rd = some a →
    exec (.neg rd) s = wrote s rd (BitVec.ofInt 64 (-a.toInt))) ∧
  (∀ (s : State) (rd : Reg) (imm : BitVec 32), exec (.movImm rd imm) s = wrote s rd (BitVec.ofInt 64 imm.toInt)) ∧
  (∀ (s : State) (rd rs : Reg) (b : Word), s.regs.get rs = some b →
    exec (.movReg rd rs) s = wrote s rd b ∧
    exec (.movs8 rd rs) s = wrote s rd (BitVec.ofInt 64 (BitVec.ofNat 8 b.toNat).toInt) ∧
    exec (.movs16 rd rs) s = wrote s rd (BitVec.ofInt 64 (BitVec.ofNat 16 b.toNat).toInt) ∧
    exec (.movs32 rd rs) s = wrote s rd (BitVec.ofInt 64 (BitVec.ofNat 32 b.toNat).toInt))

/-- In every state in which rd and rs hold values, each of add32, sub32, mul32, div32, mod32, and32, or32, xor32,
lsh32, rsh32 and arsh32 in register form answers a next state in which rd holds the exact result on the low 32 bits of
rd and rs, modulo 2^32, with bits 63 to 32 zero; pc is one more and nothing else has changed. (r10 as rd, which no
encoding has, is left as it is: the model's choice, log 16.) -/
def Obligations.Alu32RegisterForms : Prop :=
  ∀ (s : State) (rd rs : Reg) (a b : Word) (x y : Nat), s.regs.get rd = some a → s.regs.get rs = some b →
    x = a.toNat % 2 ^ 32 → y = b.toNat % 2 ^ 32 →
    exec (.add32Reg rd rs) s = wrote s rd (BitVec.ofNat 64 ((x + y) % 2 ^ 32)) ∧
    exec (.sub32Reg rd rs) s = wrote s rd (BitVec.ofNat 64 ((x + (2 ^ 32 - y)) % 2 ^ 32)) ∧
    exec (.mul32Reg rd rs) s = wrote s rd (BitVec.ofNat 64 (x * y % 2 ^ 32)) ∧
    exec (.div32Reg rd rs) s = wrote s rd (BitVec.ofNat 64 (if y = 0 then 0 else x / y)) ∧
    exec (.mod32Reg rd rs) s = wrote s rd (BitVec.ofNat 64 (if y = 0 then x else x % y)) ∧
    exec (.and32Reg rd rs) s = wrote s rd (BitVec.ofNat 64 (x &&& y)) ∧
    exec (.or32Reg rd rs) s = wrote s rd (BitVec.ofNat 64 (x ||| y)) ∧
    exec (.xor32Reg rd rs) s = wrote s rd (BitVec.ofNat 64 (x ^^^ y)) ∧
    exec (.lsh32Reg rd rs) s = wrote s rd (BitVec.ofNat 64 (x * 2 ^ (y % 32) % 2 ^ 32)) ∧
    exec (.rsh32Reg rd rs) s = wrote s rd (BitVec.ofNat 64 (x / 2 ^ (y % 32))) ∧
    exec (.arsh32Reg rd rs) s = wrote s rd (BitVec.ofNat 64 ((BitVec.ofInt 32 ((BitVec.ofNat 32 x).toInt / 2 ^ (y % 32))).toNat))

/-- In every state in which rd holds a value, each of add32, sub32, mul32, div32, mod32, and32, or32, xor32, lsh32,
rsh32 and arsh32 in immediate form answers a next state in which rd holds the exact result on the low 32 bits of rd
and the 32 bits of the immediate, modulo 2^32, with bits 63 to 32 zero; pc is one more and nothing else has changed.
(r10 as rd, which no encoding has, is left as it is: the model's choice, log 16.) -/
def Obligations.Alu32ImmediateForms : Prop :=
  ∀ (s : State) (rd : Reg) (imm : BitVec 32) (a : Word) (x y : Nat), s.regs.get rd = some a →
    x = a.toNat % 2 ^ 32 → y = imm.toNat →
    exec (.add32Imm rd imm) s = wrote s rd (BitVec.ofNat 64 ((x + y) % 2 ^ 32)) ∧
    exec (.sub32Imm rd imm) s = wrote s rd (BitVec.ofNat 64 ((x + (2 ^ 32 - y)) % 2 ^ 32)) ∧
    exec (.mul32Imm rd imm) s = wrote s rd (BitVec.ofNat 64 (x * y % 2 ^ 32)) ∧
    exec (.div32Imm rd imm) s = wrote s rd (BitVec.ofNat 64 (if y = 0 then 0 else x / y)) ∧
    exec (.mod32Imm rd imm) s = wrote s rd (BitVec.ofNat 64 (if y = 0 then x else x % y)) ∧
    exec (.and32Imm rd imm) s = wrote s rd (BitVec.ofNat 64 (x &&& y)) ∧
    exec (.or32Imm rd imm) s = wrote s rd (BitVec.ofNat 64 (x ||| y)) ∧
    exec (.xor32Imm rd imm) s = wrote s rd (BitVec.ofNat 64 (x ^^^ y)) ∧
    exec (.lsh32Imm rd imm) s = wrote s rd (BitVec.ofNat 64 (x * 2 ^ (y % 32) % 2 ^ 32)) ∧
    exec (.rsh32Imm rd imm) s = wrote s rd (BitVec.ofNat 64 (x / 2 ^ (y % 32))) ∧
    exec (.arsh32Imm rd imm) s = wrote s rd (BitVec.ofNat 64 ((BitVec.ofInt 32 ((BitVec.ofNat 32 x).toInt / 2 ^ (y % 32))).toNat))

/-- In every state in which the source operand holds a value: neg32 writes the negated low half modulo 2^32, mov32 the
low half of rs or the 32 bits of the immediate, mov32s at 8, 16 and 32 the signed value of the low 8, 16 or 32 bits of
rs modulo 2^32; bits 63 to 32 of rd are zero, pc is one more and nothing else has changed. (r10 as rd, which no
encoding has, is left as it is: the model's choice, log 16.) -/
def Obligations.Alu32Moves : Prop :=
  (∀ (s : State) (rd : Reg) (a : Word), s.regs.get rd = some a →
    exec (.neg32 rd) s = wrote s rd (BitVec.ofNat 64 ((2 ^ 32 - a.toNat % 2 ^ 32) % 2 ^ 32))) ∧
  (∀ (s : State) (rd : Reg) (imm : BitVec 32), exec (.mov32Imm rd imm) s = wrote s rd (BitVec.ofNat 64 imm.toNat)) ∧
  (∀ (s : State) (rd rs : Reg) (b : Word), s.regs.get rs = some b →
    exec (.mov32Reg rd rs) s = wrote s rd (BitVec.ofNat 64 (b.toNat % 2 ^ 32)) ∧
    exec (.mov32s8 rd rs) s = wrote s rd (BitVec.ofNat 64 (BitVec.ofInt 32 (BitVec.ofNat 8 b.toNat).toInt).toNat) ∧
    exec (.mov32s16 rd rs) s = wrote s rd (BitVec.ofNat 64 (BitVec.ofInt 32 (BitVec.ofNat 16 b.toNat).toInt).toNat) ∧
    exec (.mov32s32 rd rs) s = wrote s rd (BitVec.ofNat 64 (BitVec.ofInt 32 (BitVec.ofNat 32 b.toNat).toInt).toNat))

/-- In every state in which rd holds a value: endle at 16, 32 and 64 writes the low bits of rd zero-extended, their
bytes reversed exactly when the machine is big-endian; endbe exactly when it is little-endian; pc is one more and
nothing else has changed. (r10 as rd, which no encoding has, is left as it is: the model's choice, log 16.) -/
def Obligations.EndianConversions : Prop :=
  ∀ (s : State) (rd : Reg) (a : Word), s.regs.get rd = some a →
    exec (.endle16 rd) s = wrote s rd (BitVec.ofNat 64 (if s.params.endian = .little then a.toNat % 2 ^ 16 else reverseBytes 2 a.toNat)) ∧
    exec (.endle32 rd) s = wrote s rd (BitVec.ofNat 64 (if s.params.endian = .little then a.toNat % 2 ^ 32 else reverseBytes 4 a.toNat)) ∧
    exec (.endle64 rd) s = wrote s rd (BitVec.ofNat 64 (if s.params.endian = .little then a.toNat % 2 ^ 64 else reverseBytes 8 a.toNat)) ∧
    exec (.endbe16 rd) s = wrote s rd (BitVec.ofNat 64 (if s.params.endian = .big then a.toNat % 2 ^ 16 else reverseBytes 2 a.toNat)) ∧
    exec (.endbe32 rd) s = wrote s rd (BitVec.ofNat 64 (if s.params.endian = .big then a.toNat % 2 ^ 32 else reverseBytes 4 a.toNat)) ∧
    exec (.endbe64 rd) s = wrote s rd (BitVec.ofNat 64 (if s.params.endian = .big then a.toNat % 2 ^ 64 else reverseBytes 8 a.toNat))

/-- In every state in which rd holds a value, bswap at 16, 32 and 64 writes the low bytes of rd in reverse order,
zero-extended, whatever the byte order of the machine; pc is one more and nothing else has changed. (r10 as rd, which
no encoding has, is left as it is: the model's choice, log 16.) -/
def Obligations.ByteSwaps : Prop :=
  ∀ (s : State) (rd : Reg) (a : Word), s.regs.get rd = some a →
    exec (.bswap16 rd) s = wrote s rd (BitVec.ofNat 64 (reverseBytes 2 a.toNat)) ∧
    exec (.bswap32 rd) s = wrote s rd (BitVec.ofNat 64 (reverseBytes 4 a.toNat)) ∧
    exec (.bswap64 rd) s = wrote s rd (BitVec.ofNat 64 (reverseBytes 8 a.toNat))

/-- For all fields of two slots of which the first is an lddw with legal fields and the second has only its immediate,
the pair decodes to lddw with the second immediate as high half and the first as low half; and in every state lddw
answers a next state in which rd holds the immediate, pc is two more and nothing else has changed. (r10 as rd, which
no encoding has, is left as it is: the model's choice, log 16.) -/
def Obligations.LoadImmediate64 : Prop :=
  (∀ (version : Nat) (rd : Reg) (lo hi : BitVec 32), rd ≠ .r10 →
    decode version ⟨0x18, rd.num, 0, 0, lo⟩ (some ⟨0, 0, 0, 0, hi⟩) =
      .ok (.lddw rd (BitVec.ofNat 64 (hi.toNat * 2 ^ 32 + lo.toNat)))) ∧
  (∀ (s : State) (rd : Reg) (imm : Word),
    exec (.lddw rd imm) s = .next { s with regs := s.regs.set rd imm, pc := s.pc + 2 })

/-- In every state whose r6 holds CTX (and whose rs holds a value, for the indirect loads): when the index k (the
signed immediate, or the low 32 bits of rs plus the sign-extended immediate read as signed) and the n bytes from it
lie inside the packet, each of the six loads answers a next state in which r0 holds the n bytes, first one most
significant, zero-extended, r1 to r5 hold no value, pc is one more and nothing else has changed. -/
def Obligations.PacketLoadsComplete : Prop :=
  ∀ (s : State) (rs : Reg) (x : Word) (imm : BitVec 32) (k : Nat) (v : Nat → Word), s.regs.r6 = some s.params.ctx →
    (∀ n, v n = BitVec.ofNat 64 ((List.range n).map fun j =>
      (s.params.packet.getD (k + j) 0).toNat * 256 ^ (n - 1 - j)).sum) →
    (imm.toInt = k →
      (k + 4 ≤ s.params.packet.length → exec (.ldabsw imm) s = .next { s with regs := (s.regs.set .r0 (v 4)).dropArgs, pc := s.pc + 1 }) ∧
      (k + 2 ≤ s.params.packet.length → exec (.ldabsh imm) s = .next { s with regs := (s.regs.set .r0 (v 2)).dropArgs, pc := s.pc + 1 }) ∧
      (k + 1 ≤ s.params.packet.length → exec (.ldabsb imm) s = .next { s with regs := (s.regs.set .r0 (v 1)).dropArgs, pc := s.pc + 1 })) ∧
    (s.regs.get rs = some x → (BitVec.ofInt 32 (x.toInt + imm.toInt)).toInt = k →
      (k + 4 ≤ s.params.packet.length → exec (.ldindw rs imm) s = .next { s with regs := (s.regs.set .r0 (v 4)).dropArgs, pc := s.pc + 1 }) ∧
      (k + 2 ≤ s.params.packet.length → exec (.ldindh rs imm) s = .next { s with regs := (s.regs.set .r0 (v 2)).dropArgs, pc := s.pc + 1 }) ∧
      (k + 1 ≤ s.params.packet.length → exec (.ldindb rs imm) s = .next { s with regs := (s.regs.set .r0 (v 1)).dropArgs, pc := s.pc + 1 }))

/-- In every state whose r6 holds CTX: an absolute load whose index is negative or runs past the packet, and an
indirect load whose index does, answers the state with status Exited(0) and nothing else changed. In every state whose
r6 holds another value (and whose rs holds a value, for the indirect loads) each load of n bytes takes the fault
MemoryAccessFault(x[6], n, read). -/
def Obligations.PacketLoadsOutsideEndTheRun : Prop :=
  ∀ (s : State) (rs : Reg) (c x : Word) (imm : BitVec 32), s.regs.r6 = some c → s.regs.get rs = some x →
    (c = s.params.ctx → (imm.toInt < 0 ∨ (s.params.packet.length : Int) < imm.toInt + 4) →
      exec (.ldabsw imm) s = .next { s with status := .exited 0 }) ∧
    (∀ k, k = (BitVec.ofInt 32 (x.toInt + imm.toInt)).toInt → c = s.params.ctx →
      (k < 0 ∨ (s.params.packet.length : Int) < k + 4) →
      exec (.ldindw rs imm) s = .next { s with status := .exited 0 }) ∧
    (c ≠ s.params.ctx → exec (.ldabsw imm) s = faulted s (.memoryAccessFault c 4 .read) ∧
      exec (.ldindw rs imm) s = faulted s (.memoryAccessFault c 4 .read)) ∧
    (c = s.params.ctx → (imm.toInt < 0 ∨ (s.params.packet.length : Int) < imm.toInt + 2) →
      exec (.ldabsh imm) s = .next { s with status := .exited 0 }) ∧
    (∀ k, k = (BitVec.ofInt 32 (x.toInt + imm.toInt)).toInt → c = s.params.ctx →
      (k < 0 ∨ (s.params.packet.length : Int) < k + 2) →
      exec (.ldindh rs imm) s = .next { s with status := .exited 0 }) ∧
    (c ≠ s.params.ctx → exec (.ldabsh imm) s = faulted s (.memoryAccessFault c 2 .read) ∧
      exec (.ldindh rs imm) s = faulted s (.memoryAccessFault c 2 .read)) ∧
    (c = s.params.ctx → (imm.toInt < 0 ∨ (s.params.packet.length : Int) < imm.toInt + 1) →
      exec (.ldabsb imm) s = .next { s with status := .exited 0 }) ∧
    (∀ k, k = (BitVec.ofInt 32 (x.toInt + imm.toInt)).toInt → c = s.params.ctx →
      (k < 0 ∨ (s.params.packet.length : Int) < k + 1) →
      exec (.ldindb rs imm) s = .next { s with status := .exited 0 }) ∧
    (c ≠ s.params.ctx → exec (.ldabsb imm) s = faulted s (.memoryAccessFault c 1 .read) ∧
      exec (.ldindb rs imm) s = faulted s (.memoryAccessFault c 1 .read))

/-- In every state in which rs holds a value: with a the wrapped sum of rs and the sign-extended offset, each of the
eight loads whose n bytes at a may be read (aligned and inside a readable region; or misaligned under ALIGN = split
with every byte inside one) answers a next state in which rd holds the number those bytes spell in the byte order
ENDIAN, zero-extended or, for ldxs, sign-extended; pc is one more and nothing else has changed. A misaligned load
reads bytes of the one state in which the instruction runs too, since ENV does not act inside a step (log 11). (r10 as
rd, which no encoding has: log 16.) -/
def Obligations.LoadsComplete : Prop :=
  ∀ (s : State) (rd rs : Reg) (off : BitVec 16) (b : Word) (a : Nat), s.regs.get rs = some b →
    a = (b + BitVec.ofInt 64 off.toInt).toNat →
    (CanAccess s.params a 8 .read → exec (.ldxdw rd rs off) s =
      wrote s rd (BitVec.ofNat 64 (memNat s a 8))) ∧
    (CanAccess s.params a 4 .read → exec (.ldxw rd rs off) s =
      wrote s rd (BitVec.ofNat 64 (memNat s a 4))) ∧
    (CanAccess s.params a 2 .read → exec (.ldxh rd rs off) s =
      wrote s rd (BitVec.ofNat 64 (memNat s a 2))) ∧
    (CanAccess s.params a 1 .read → exec (.ldxb rd rs off) s =
      wrote s rd (BitVec.ofNat 64 (memNat s a 1))) ∧
    (CanAccess s.params a 8 .read → exec (.ldxsdw rd rs off) s =
      wrote s rd (BitVec.ofInt 64 (BitVec.ofNat 64 (memNat s a 8)).toInt)) ∧
    (CanAccess s.params a 4 .read → exec (.ldxsw rd rs off) s =
      wrote s rd (BitVec.ofInt 64 (BitVec.ofNat 32 (memNat s a 4)).toInt)) ∧
    (CanAccess s.params a 2 .read → exec (.ldxsh rd rs off) s =
      wrote s rd (BitVec.ofInt 64 (BitVec.ofNat 16 (memNat s a 2)).toInt)) ∧
    (CanAccess s.params a 1 .read → exec (.ldxsb rd rs off) s =
      wrote s rd (BitVec.ofInt 64 (BitVec.ofNat 8 (memNat s a 1)).toInt))

/-- In every state in which rd and rs hold values: with a the wrapped sum of rd and the sign-extended offset, each of
the four stores whose n bytes at a may be written answers a next state in which those bytes spell the low 8n bits of
rs in the byte order ENDIAN, every other byte reads as before, pc is one more, and no register and nothing else has
changed, for a misaligned store too (no ENV move falls inside a step: log 11). -/
def Obligations.RegisterStoresComplete : Prop :=
  ∀ (s : State) (rd rs : Reg) (off : BitVec 16) (b v : Word) (a : Nat), s.regs.get rd = some b → s.regs.get rs = some v →
    a = (b + BitVec.ofInt 64 off.toInt).toNat →
    (CanAccess s.params a 8 .write → StoresAndGoesOn s (exec (.stxdw rd rs off) s) a 8 v.toNat s.regs) ∧
    (CanAccess s.params a 4 .write → StoresAndGoesOn s (exec (.stxw rd rs off) s) a 4 v.toNat s.regs) ∧
    (CanAccess s.params a 2 .write → StoresAndGoesOn s (exec (.stxh rd rs off) s) a 2 v.toNat s.regs) ∧
    (CanAccess s.params a 1 .write → StoresAndGoesOn s (exec (.stxb rd rs off) s) a 1 v.toNat s.regs)

/-- In every state in which rd holds a value: with a the wrapped sum of rd and the sign-extended offset, each of the
four immediate stores whose n bytes at a may be written answers a next state in which those bytes spell the low 8n
bits of the immediate (sign-extended to 64 bits for stdw) in the byte order ENDIAN, every other byte reads as before,
pc is one more, and no register and nothing else has changed, for a misaligned store too (no ENV move falls inside a
step: log 11). -/
def Obligations.ImmediateStoresComplete : Prop :=
  ∀ (s : State) (rd : Reg) (off : BitVec 16) (imm : BitVec 32) (b : Word) (a : Nat), s.regs.get rd = some b →
    a = (b + BitVec.ofInt 64 off.toInt).toNat →
    (CanAccess s.params a 8 .write → StoresAndGoesOn s (exec (.stdw rd off imm) s) a 8 (BitVec.ofInt 64 imm.toInt).toNat s.regs) ∧
    (CanAccess s.params a 4 .write → StoresAndGoesOn s (exec (.stw rd off imm) s) a 4 imm.toNat s.regs) ∧
    (CanAccess s.params a 2 .write → StoresAndGoesOn s (exec (.sth rd off imm) s) a 2 imm.toNat s.regs) ∧
    (CanAccess s.params a 1 .write → StoresAndGoesOn s (exec (.stb rd off imm) s) a 1 imm.toNat s.regs)

/-- For every load, store and atomic and every state in which the registers it reads hold values: with ea the wrapped
sum of the base register and the sign-extended offset, n the size and k the kind: misaligned, and atomic or under
ALIGN = strict, gives MisalignedAccess(ea, n); aligned but not inside one region with the needed permission (or
running past 2^64) gives MemoryAccessFault(ea, n, k); misaligned under ALIGN = split with some byte outside gives
MemoryAccessFault(ea, n, k) too (the info of a split access is the model's reading: log 9). The status alone changes.
-/
def Obligations.AccessFaults : Prop :=
  ∀ (i : Instr) (s : State) (r : Reg) (off : BitVec 16) (n : Nat) (k : AccessKind) (b ea : Word),
    dataAccess i = some (r, off, n, k) → (∀ q ∈ readOrder i, s.regs.get q ≠ none) → s.regs.get r = some b →
    ea = b + BitVec.ofInt 64 off.toInt →
    (ea.toNat % n ≠ 0 → (k = .readwrite ∨ s.params.align = .strict) → exec i s = faulted s (.misalignedAccess ea n)) ∧
    (ea.toNat % n = 0 → ¬InRegion s.params ea.toNat n k → exec i s = faulted s (.memoryAccessFault ea n k)) ∧
    (ea.toNat % n ≠ 0 → k ≠ .readwrite → s.params.align = .split →
      (∃ j < n, ¬InRegion s.params (ea.toNat + j) 1 k) → exec i s = faulted s (.memoryAccessFault ea n k))

/-- For every state and each width: if a register store goes on to a state that still runs, the load of the same width
at the same base and offset from that state, when the bytes may be read, gives rd the low bits of the stored register,
zero-extended; so does the signed load with the sign. It holds for misaligned accesses under ALIGN = split too, since
no ENV move falls inside a step (DEDUCED, log 11). (r10 as rd of the load, which no encoding has, is left as it is:
the model's choice, log 16.) -/
def Obligations.StoreThenLoad : Prop :=
  ∀ (s t : State) (rd rb rs : Reg) (off : BitVec 16) (b v : Word) (a : Nat), s.status = .running →
    s.regs.get rb = some b → s.regs.get rs = some v → a = (b + BitVec.ofInt 64 off.toInt).toNat → t.status = .running →
    (exec (.stxdw rb rs off) s = .next t → CanAccess s.params a 8 .read →
      exec (.ldxdw rd rb off) t = wrote t rd (BitVec.ofNat 64 (v.toNat % 2 ^ 64)) ∧
      exec (.ldxsdw rd rb off) t = wrote t rd (BitVec.ofInt 64 (BitVec.ofNat 64 v.toNat).toInt)) ∧
    (exec (.stxw rb rs off) s = .next t → CanAccess s.params a 4 .read →
      exec (.ldxw rd rb off) t = wrote t rd (BitVec.ofNat 64 (v.toNat % 2 ^ 32)) ∧
      exec (.ldxsw rd rb off) t = wrote t rd (BitVec.ofInt 64 (BitVec.ofNat 32 v.toNat).toInt)) ∧
    (exec (.stxh rb rs off) s = .next t → CanAccess s.params a 2 .read →
      exec (.ldxh rd rb off) t = wrote t rd (BitVec.ofNat 64 (v.toNat % 2 ^ 16)) ∧
      exec (.ldxsh rd rb off) t = wrote t rd (BitVec.ofInt 64 (BitVec.ofNat 16 v.toNat).toInt)) ∧
    (exec (.stxb rb rs off) s = .next t → CanAccess s.params a 1 .read →
      exec (.ldxb rd rb off) t = wrote t rd (BitVec.ofNat 64 (v.toNat % 2 ^ 8)) ∧
      exec (.ldxsb rd rb off) t = wrote t rd (BitVec.ofInt 64 (BitVec.ofNat 8 v.toNat).toInt))

/-- After the 8-byte value 0x1122334455667788 is stored at an address A, the 4 bytes at A spell 0x55667788 (little) or
0x11223344 (big), the 2 bytes at A + 4 spell 0x3344 or 0x5566, and the byte at A is 0x88 or 0x11, as the byte order of
the machine says. -/
def Obligations.MixedWidthAccess : Prop :=
  ∀ (s t : State) (a : Nat), t = s.storeAt a 8 0x1122334455667788 →
    (s.params.endian = .little →
      t.valueAt a 4 = 0x55667788 ∧ t.valueAt (a + 4) 2 = 0x3344 ∧ t.valueAt a 1 = 0x88) ∧
    (s.params.endian = .big →
      t.valueAt a 4 = 0x11223344 ∧ t.valueAt (a + 4) 2 = 0x5566 ∧ t.valueAt a 1 = 0x11)

/-- For parameters that the launcher established properly and every state with the invariant: the n bytes at any
address between r10 - STACK_SIZE and r10 lie inside one region that may be read and written, for a single access or an
atomic. -/
def Obligations.StackFrameAccessible : Prop :=
  ∀ (s : State) (a n : Nat) (k : AccessKind), launchOk s.params → 0 < s.params.maxCallDepth → Inv s →
    s.regs.r10.toNat - s.params.stackSize ≤ a → a + n ≤ s.regs.r10.toNat →
    s.params.stackSize ≤ s.regs.r10.toNat ∧ InRegion s.params a n k

/-- In every state, ja with a 16-bit and jal with a 32-bit displacement answer the state with pc one more plus the
signed displacement, over unbounded integers, and nothing else changed. -/
def Obligations.UnconditionalJumps : Prop :=
  (∀ (s : State) (d : BitVec 16), exec (.ja d) s = jumped s true d.toInt) ∧
  (∀ (s : State) (d : BitVec 32), exec (.jal d) s = jumped s true d.toInt)

/-- In every state in which rd and rs hold values, each of jeq, jne, jgt, jge, jlt, jle, jset, jsgt, jsge, jslt and
jsle in register form answers the state with pc at the target (pc + 1 + displacement) when its condition holds of the
64-bit values (unsigned, or signed for the s forms; a common set bit for jset) and at the next slot when not, and
nothing else changed. -/
def Obligations.Jumps64RegisterForms : Prop :=
  ∀ (s : State) (rd rs : Reg) (d : BitVec 16) (a b : Word), s.regs.get rd = some a → s.regs.get rs = some b →
    exec (.jeqReg rd rs d) s = jumped s (decide (a = b)) d.toInt ∧
    exec (.jneReg rd rs d) s = jumped s (decide (a ≠ b)) d.toInt ∧
    exec (.jgtReg rd rs d) s = jumped s (decide (a.toNat > b.toNat)) d.toInt ∧
    exec (.jgeReg rd rs d) s = jumped s (decide (a.toNat ≥ b.toNat)) d.toInt ∧
    exec (.jltReg rd rs d) s = jumped s (decide (a.toNat < b.toNat)) d.toInt ∧
    exec (.jleReg rd rs d) s = jumped s (decide (a.toNat ≤ b.toNat)) d.toInt ∧
    exec (.jsetReg rd rs d) s = jumped s (decide (a.toNat &&& b.toNat ≠ 0)) d.toInt ∧
    exec (.jsgtReg rd rs d) s = jumped s (decide (a.toInt > b.toInt)) d.toInt ∧
    exec (.jsgeReg rd rs d) s = jumped s (decide (a.toInt ≥ b.toInt)) d.toInt ∧
    exec (.jsltReg rd rs d) s = jumped s (decide (a.toInt < b.toInt)) d.toInt ∧
    exec (.jsleReg rd rs d) s = jumped s (decide (a.toInt ≤ b.toInt)) d.toInt

/-- In every state in which rd holds a value, each of jeq, jne, jgt, jge, jlt, jle, jset, jsgt, jsge, jslt and jsle in
immediate form answers the state with pc at the target when its condition holds of rd and the immediate sign-extended
to 64 bits and at the next slot when not, and nothing else changed. -/
def Obligations.Jumps64ImmediateForms : Prop :=
  ∀ (s : State) (rd : Reg) (imm : BitVec 32) (d : BitVec 16) (a b : Word), s.regs.get rd = some a →
    b = BitVec.ofInt 64 imm.toInt →
    exec (.jeqImm rd imm d) s = jumped s (decide (a = b)) d.toInt ∧
    exec (.jneImm rd imm d) s = jumped s (decide (a ≠ b)) d.toInt ∧
    exec (.jgtImm rd imm d) s = jumped s (decide (a.toNat > b.toNat)) d.toInt ∧
    exec (.jgeImm rd imm d) s = jumped s (decide (a.toNat ≥ b.toNat)) d.toInt ∧
    exec (.jltImm rd imm d) s = jumped s (decide (a.toNat < b.toNat)) d.toInt ∧
    exec (.jleImm rd imm d) s = jumped s (decide (a.toNat ≤ b.toNat)) d.toInt ∧
    exec (.jsetImm rd imm d) s = jumped s (decide (a.toNat &&& b.toNat ≠ 0)) d.toInt ∧
    exec (.jsgtImm rd imm d) s = jumped s (decide (a.toInt > b.toInt)) d.toInt ∧
    exec (.jsgeImm rd imm d) s = jumped s (decide (a.toInt ≥ b.toInt)) d.toInt ∧
    exec (.jsltImm rd imm d) s = jumped s (decide (a.toInt < b.toInt)) d.toInt ∧
    exec (.jsleImm rd imm d) s = jumped s (decide (a.toInt ≤ b.toInt)) d.toInt

/-- In every state in which rd and rs hold values, each 32-bit conditional jump in register form answers the state
with pc at the target when its condition holds of the low 32 bits of the two registers and at the next slot when not,
and nothing else changed: bits 63 to 32 play no part. -/
def Obligations.Jumps32RegisterForms : Prop :=
  ∀ (s : State) (rd rs : Reg) (d : BitVec 16) (a b : Word) (x y : BitVec 32), s.regs.get rd = some a →
    s.regs.get rs = some b → x = BitVec.ofNat 32 a.toNat → y = BitVec.ofNat 32 b.toNat →
    exec (.jeq32Reg rd rs d) s = jumped s (decide (x = y)) d.toInt ∧
    exec (.jne32Reg rd rs d) s = jumped s (decide (x ≠ y)) d.toInt ∧
    exec (.jgt32Reg rd rs d) s = jumped s (decide (x.toNat > y.toNat)) d.toInt ∧
    exec (.jge32Reg rd rs d) s = jumped s (decide (x.toNat ≥ y.toNat)) d.toInt ∧
    exec (.jlt32Reg rd rs d) s = jumped s (decide (x.toNat < y.toNat)) d.toInt ∧
    exec (.jle32Reg rd rs d) s = jumped s (decide (x.toNat ≤ y.toNat)) d.toInt ∧
    exec (.jset32Reg rd rs d) s = jumped s (decide (x.toNat &&& y.toNat ≠ 0)) d.toInt ∧
    exec (.jsgt32Reg rd rs d) s = jumped s (decide (x.toInt > y.toInt)) d.toInt ∧
    exec (.jsge32Reg rd rs d) s = jumped s (decide (x.toInt ≥ y.toInt)) d.toInt ∧
    exec (.jslt32Reg rd rs d) s = jumped s (decide (x.toInt < y.toInt)) d.toInt ∧
    exec (.jsle32Reg rd rs d) s = jumped s (decide (x.toInt ≤ y.toInt)) d.toInt

/-- In every state in which rd holds a value, each 32-bit conditional jump in immediate form answers the state with pc
at the target when its condition holds of the low 32 bits of rd and the 32 bits of the immediate and at the next slot
when not, and nothing else changed. -/
def Obligations.Jumps32ImmediateForms : Prop :=
  ∀ (s : State) (rd : Reg) (imm : BitVec 32) (d : BitVec 16) (a : Word) (x : BitVec 32), s.regs.get rd = some a →
    x = BitVec.ofNat 32 a.toNat →
    exec (.jeq32Imm rd imm d) s = jumped s (decide (x = imm)) d.toInt ∧
    exec (.jne32Imm rd imm d) s = jumped s (decide (x ≠ imm)) d.toInt ∧
    exec (.jgt32Imm rd imm d) s = jumped s (decide (x.toNat > imm.toNat)) d.toInt ∧
    exec (.jge32Imm rd imm d) s = jumped s (decide (x.toNat ≥ imm.toNat)) d.toInt ∧
    exec (.jlt32Imm rd imm d) s = jumped s (decide (x.toNat < imm.toNat)) d.toInt ∧
    exec (.jle32Imm rd imm d) s = jumped s (decide (x.toNat ≤ imm.toNat)) d.toInt ∧
    exec (.jset32Imm rd imm d) s = jumped s (decide (x.toNat &&& imm.toNat ≠ 0)) d.toInt ∧
    exec (.jsgt32Imm rd imm d) s = jumped s (decide (x.toInt > imm.toInt)) d.toInt ∧
    exec (.jsge32Imm rd imm d) s = jumped s (decide (x.toInt ≥ imm.toInt)) d.toInt ∧
    exec (.jslt32Imm rd imm d) s = jumped s (decide (x.toInt < imm.toInt)) d.toInt ∧
    exec (.jsle32Imm rd imm d) s = jumped s (decide (x.toInt ≤ imm.toInt)) d.toInt

/-- For every instruction and state: if exec answers a state that still runs, pc is one more (two more for lddw), or
the instruction is a jump or local call with that displacement and pc is one more plus it, or it is exit and pc is the
return slot of the last record. No instruction takes the fault PcOutOfRange, wherever its target is: that is for the
next fetch. -/
def Obligations.PcUpdate : Prop :=
  (∀ (i : Instr) (s t : State), s.status = .running → exec i s = .next t → t.status = .running →
    match i with
    | .lddw _ _ => t.pc = s.pc + 2
    | .ja d => t.pc = s.pc + 1 + d.toInt
    | .jal d => t.pc = s.pc + 1 + d.toInt
    | .callLocal d => t.pc = s.pc + 1 + d.toInt
    | .exit => ∃ f, s.frames.getLast? = some f ∧ t.pc = f.ret
    | i => t.pc = s.pc + 1 ∨ ((encodeFirst i).opcode.extractLsb' 0 3 = 5 ∨ (encodeFirst i).opcode.extractLsb' 0 3 = 6) ∧
        t.pc = s.pc + 1 + (encodeFirst i).offset.toInt) ∧
  (∀ (i : Instr) (s t : State) (q p : Int), s.status = .running → exec i s = .next t →
    t.status ≠ .faulted (.pcOutOfRange q) p)

/-- In every state with length(frames) + 1 < MAX_CALL_DEPTH, the local call answers a next state in which a record
with the slot after the call and r6 to r10 as they are is added at the end of the call stack, r10 is lowered by
FRAME_STRIDE, r0 and r6 to r9 hold no value, r1 to r5 are kept, pc is at the target, and nothing else has changed. In
every other state it takes the fault CallDepthExceeded(length(frames) + 1). -/
def Obligations.LocalCallCompletes : Prop :=
  ∀ (s : State) (d : BitVec 32),
    (s.frames.length + 1 < s.params.maxCallDepth → exec (.callLocal d) s = .next { s with
      frames := s.frames ++ [⟨s.pc + 1, s.regs.r6, s.regs.r7, s.regs.r8, s.regs.r9, s.regs.r10⟩]
      regs := { s.regs with
        r0 := none, r6 := none, r7 := none, r8 := none, r9 := none
        r10 := s.regs.r10 - BitVec.ofNat 64 s.params.frameStride }
      pc := s.pc + 1 + d.toInt }) ∧
    (s.params.maxCallDepth ≤ s.frames.length + 1 →
      exec (.callLocal d) s = faulted s (.callDepthExceeded (s.frames.length + 1)))

/-- In every state whose HELPERS has an entry for the number, the helper call answers a next state: for some result v
and memory after, which that entry relates to what r1 to r5 hold (each a value or no value) and to the memory before,
r0 holds v, r1 to r5 hold no value, every other register, the call stack and the status are kept and pc is one more.
The outcome is that of the choices drawn: the first of those fixed in advance (which is then gone) or, when none is
left, a free value (and the count of free values is one more). Only bytes of mapped addresses can have changed. No
register is read: the call completes with r1 to r5 without value. (The form of the relations and of the draws, and
that the first entry of a number counts, is the model's: log 5.) -/
def Obligations.HelperCallCompletes : Prop :=
  ∀ (s : State) (id : BitVec 32) (r : HelperRel), s.params.helpers.lookup id = some r →
    ∃ (ws : List Word) (v : Word) (t : State), exec (.callHelper id) s = .next t ∧
      ((s.helperDraws = ws :: t.helperDraws ∧ t.draws = s.draws) ∨
       (s.helperDraws = [] ∧ t.helperDraws = [] ∧ t.draws = s.draws + 1 ∧
        ws = Config.helperDraw s.params.run s.draws)) ∧
      HelperRelates s.params r [s.regs.r1, s.regs.r2, s.regs.r3, s.regs.r4, s.regs.r5] s.byteAt v t.byteAt ∧
      v = (outcomeOf r ws [s.regs.r1, s.regs.r2, s.regs.r3, s.regs.r4, s.regs.r5] s.byteAt).result ∧
      (∀ a, t.byteAt a = if isMapped s.params a = true then
        (lastWrite (outcomeOf r ws [s.regs.r1, s.regs.r2, s.regs.r3, s.regs.r4, s.regs.r5] s.byteAt).writes a).getD
          (s.byteAt a) else s.byteAt a) ∧
      t = { s with
        mem := t.mem
        regs := { s.regs with r0 := some v, r1 := none, r2 := none, r3 := none, r4 := none, r5 := none }
        pc := s.pc + 1
        helperDraws := t.helperDraws
        draws := t.draws }

/-- In every state whose HELPERS has no entry for the number, the helper call takes the fault UnknownHelper with that
number: the status alone changes, no register is read or changed. -/
def Obligations.UnknownHelperFaults : Prop :=
  ∀ (s : State) (id : BitVec 32), (∀ e ∈ s.params.helpers, e.1 ≠ id) → exec (.callHelper id) s = faulted s (.unknownHelper id)

/-- In every state whose r0 holds a value: with an empty call stack exit answers the state with status Exited(r0) and
nothing else changed; with a last record it answers the state without that record, r6 to r10 restored from it, r1 to
r5 without value, r0 kept, pc at its return slot, and nothing else changed. -/
def Obligations.ExitCompletes : Prop :=
  ∀ (s : State) (v : Word), s.regs.r0 = some v →
    (s.frames = [] → exec .exit s = .next { s with status := .exited v }) ∧
    (∀ (fs : List Frame) (f : Frame), s.frames = fs ++ [f] → exec .exit s = .next { s with
      frames := fs
      regs := ⟨some v, none, none, none, none, none, f.s6, f.s7, f.s8, f.s9, f.s10⟩
      pc := f.ret })

/-- If a local call goes on from s to t, and exit goes on to u from any state w that has the call stack of t and runs,
then u has the call stack of s, its r6 to r10 are those of s, its pc is the slot after the call, its r1 to r5 hold no
value and its r0 is that of w (when that holds a value), whatever the function did between. -/
def Obligations.CallThenExitRestores : Prop :=
  ∀ (s t w u : State) (d : BitVec 32) (v : Word), s.status = .running → exec (.callLocal d) s = .next t →
    t.status = .running → w.status = .running → w.frames = t.frames → w.regs.r0 = some v → exec .exit w = .next u →
    u.frames = s.frames ∧ u.pc = s.pc + 1 ∧ u.status = .running ∧ u.mem = w.mem ∧
    u.regs = ⟨some v, none, none, none, none, none, s.regs.r6, s.regs.r7, s.regs.r8, s.regs.r9, s.regs.r10⟩

/-- In every state in which rd and rs hold values: with a the wrapped sum of rd and the sign-extended offset, aligned
and inside a region that may be read and written: aadd, aor, aand and axor (on 8 bytes and all of rs) and their 32-bit
forms (on 4 bytes and the low half of rs) answer a next state in which memory holds the sum modulo 2^64 or 2^32, or
the bitwise combination, of the old value and rs; every other byte reads as before, pc is one more, no register and
nothing else has changed. -/
def Obligations.AtomicUpdatesComplete : Prop :=
  (∀ (s : State) (rd rs : Reg) (off : BitVec 16) (b v : Word) (a m x : Nat), s.regs.get rd = some b →
    s.regs.get rs = some v → a = (b + BitVec.ofInt 64 off.toInt).toNat → m = memNat s a 8 → x = v.toNat % 2 ^ 64 → CanAccess s.params a 8 .readwrite →
    StoresAndGoesOn s (exec (.aadd rd rs off) s) a 8 ((m + x) % 2 ^ 64) s.regs ∧
    StoresAndGoesOn s (exec (.aor rd rs off) s) a 8 (m ||| x) s.regs ∧
    StoresAndGoesOn s (exec (.aand rd rs off) s) a 8 (m &&& x) s.regs ∧
    StoresAndGoesOn s (exec (.axor rd rs off) s) a 8 (m ^^^ x) s.regs) ∧
  (∀ (s : State) (rd rs : Reg) (off : BitVec 16) (b v : Word) (a m x : Nat), s.regs.get rd = some b →
    s.regs.get rs = some v → a = (b + BitVec.ofInt 64 off.toInt).toNat → m = memNat s a 4 → x = v.toNat % 2 ^ 32 → CanAccess s.params a 4 .readwrite →
    StoresAndGoesOn s (exec (.aadd32 rd rs off) s) a 4 ((m + x) % 2 ^ 32) s.regs ∧
    StoresAndGoesOn s (exec (.aor32 rd rs off) s) a 4 (m ||| x) s.regs ∧
    StoresAndGoesOn s (exec (.aand32 rd rs off) s) a 4 (m &&& x) s.regs ∧
    StoresAndGoesOn s (exec (.axor32 rd rs off) s) a 4 (m ^^^ x) s.regs)

/-- In every state in which rd and rs hold values: with a the wrapped sum of rd and the sign-extended offset, aligned
and inside a region that may be read and written: afadd, afor, afand, afxor and axchg (on 8 bytes) and their 32-bit
forms (on 4 bytes and the low half of rs) answer a next state in which memory holds the combination of the old value
and the old rs (the old rs for the exchange), rs holds the old memory value, zero-extended, every other byte and
register is as before, and pc is one more; rs may be rd. (r10 as rs, which no encoding has: log 16.) -/
def Obligations.AtomicFetchesComplete : Prop :=
  (∀ (s : State) (rd rs : Reg) (off : BitVec 16) (b v : Word) (a m x : Nat), s.regs.get rd = some b →
    s.regs.get rs = some v → a = (b + BitVec.ofInt 64 off.toInt).toNat → m = memNat s a 8 → x = v.toNat % 2 ^ 64 → CanAccess s.params a 8 .readwrite →
    StoresAndGoesOn s (exec (.afadd rd rs off) s) a 8 ((m + x) % 2 ^ 64) (s.regs.set rs (BitVec.ofNat 64 m)) ∧
    StoresAndGoesOn s (exec (.afor rd rs off) s) a 8 (m ||| x) (s.regs.set rs (BitVec.ofNat 64 m)) ∧
    StoresAndGoesOn s (exec (.afand rd rs off) s) a 8 (m &&& x) (s.regs.set rs (BitVec.ofNat 64 m)) ∧
    StoresAndGoesOn s (exec (.afxor rd rs off) s) a 8 (m ^^^ x) (s.regs.set rs (BitVec.ofNat 64 m)) ∧
    StoresAndGoesOn s (exec (.axchg rd rs off) s) a 8 x (s.regs.set rs (BitVec.ofNat 64 m))) ∧
  (∀ (s : State) (rd rs : Reg) (off : BitVec 16) (b v : Word) (a m x : Nat), s.regs.get rd = some b →
    s.regs.get rs = some v → a = (b + BitVec.ofInt 64 off.toInt).toNat → m = memNat s a 4 → x = v.toNat % 2 ^ 32 → CanAccess s.params a 4 .readwrite →
    StoresAndGoesOn s (exec (.afadd32 rd rs off) s) a 4 ((m + x) % 2 ^ 32) (s.regs.set rs (BitVec.ofNat 64 m)) ∧
    StoresAndGoesOn s (exec (.afor32 rd rs off) s) a 4 (m ||| x) (s.regs.set rs (BitVec.ofNat 64 m)) ∧
    StoresAndGoesOn s (exec (.afand32 rd rs off) s) a 4 (m &&& x) (s.regs.set rs (BitVec.ofNat 64 m)) ∧
    StoresAndGoesOn s (exec (.afxor32 rd rs off) s) a 4 (m ^^^ x) (s.regs.set rs (BitVec.ofNat 64 m)) ∧
    StoresAndGoesOn s (exec (.axchg32 rd rs off) s) a 4 x (s.regs.set rs (BitVec.ofNat 64 m)))

/-- In every state in which rd, rs and r0 hold values: with a the wrapped sum of rd and the sign-extended offset,
aligned and inside a region that may be read and written: acmp (8 bytes) and acmp32 (4 bytes, low halves of rs and r0)
answer a next state in which memory holds the low 8n bits of rs when the old value equals the low 8n bits of r0 and
reads as before everywhere when not, r0 holds the old memory value, zero-extended, in both cases, every other byte and
register is as before and pc is one more. -/
def Obligations.CompareAndSwapCompletes : Prop :=
  (∀ (s : State) (rd rs : Reg) (off : BitVec 16) (b v e : Word) (a m : Nat), s.regs.get rd = some b →
    s.regs.get rs = some v → s.regs.r0 = some e → a = (b + BitVec.ofInt 64 off.toInt).toNat → m = memNat s a 8 →
    CanAccess s.params a 8 .readwrite →
    (m = e.toNat % 2 ^ 64 → StoresAndGoesOn s (exec (.acmp rd rs off) s) a 8 v.toNat
      (s.regs.set .r0 (BitVec.ofNat 64 m))) ∧
    (m ≠ e.toNat % 2 ^ 64 → StoresAndGoesOn s (exec (.acmp rd rs off) s) a 8 m
        (s.regs.set .r0 (BitVec.ofNat 64 m)) ∧
      ∃ t, exec (.acmp rd rs off) s = .next t ∧ ∀ c, t.byteAt c = s.byteAt c)) ∧
  (∀ (s : State) (rd rs : Reg) (off : BitVec 16) (b v e : Word) (a m : Nat), s.regs.get rd = some b →
    s.regs.get rs = some v → s.regs.r0 = some e → a = (b + BitVec.ofInt 64 off.toInt).toNat → m = memNat s a 4 →
    CanAccess s.params a 4 .readwrite →
    (m = e.toNat % 2 ^ 32 → StoresAndGoesOn s (exec (.acmp32 rd rs off) s) a 4 v.toNat
      (s.regs.set .r0 (BitVec.ofNat 64 m))) ∧
    (m ≠ e.toNat % 2 ^ 32 → StoresAndGoesOn s (exec (.acmp32 rd rs off) s) a 4 m
        (s.regs.set .r0 (BitVec.ofNat 64 m)) ∧
      ∃ t, exec (.acmp32 rd rs off) s = .next t ∧ ∀ c, t.byteAt c = s.byteAt c))

/-- For every instruction and every state with UNINIT = fault: if a register the instruction reads holds no value,
exec takes the fault UninitRegisterRead with the first such register in the order r6 (socket-filter loads), dst
register, src register, r0 (compare-and-swap, exit), and the status alone changes; all other checks of such an
instruction come after. r10 always holds a value, and r1 keeps holding one over every instruction but a call, a
socket-filter load and an exit. Under UNINIT = any no instruction takes this fault, and the read answers the next free
value, which nothing constrains. A helper call never takes it. (That the arbitrary value is Config.uninitRead of the
run and of the count of draws, and the count goes up by one, is the model's form of it: logs 3 and 15; that r10 always
holds a value stands in its type: log 18.) -/
def Obligations.UninitRegisterReads : Prop :=
  (∀ (i : Instr) (s : State) (r : Reg), s.params.uninit = .fault →
    (readOrder i).find? (fun q => s.regs.get q == none) = some r → exec i s = faulted s (.uninitRegisterRead r)) ∧
  (∀ s : State, s.regs.get .r10 ≠ none) ∧
  (∀ (i : Instr) (s t : State), exec i s = .next t → packetBytes i = none → (∀ d, i ≠ .callLocal d) →
    (∀ id, i ≠ .callHelper id) → i ≠ .exit → s.regs.r1 ≠ none → t.regs.r1 ≠ none) ∧
  (∀ (i : Instr) (s t : State) (r : Reg) (p : Int), s.status = .running → s.params.uninit = .any →
    exec i s = .next t → t.status ≠ .faulted (.uninitRegisterRead r) p) ∧
  (∀ (r : Reg) (s : State), s.params.uninit = .any → s.regs.get r = none →
    readReg r s = .done (Config.uninitRead s.params.run s.draws) { s with draws := s.draws + 1 }) ∧
  (∀ (id : BitVec 32) (s t : State) (r : Reg) (p : Int), s.status = .running → exec (.callHelper id) s = .next t →
    t.status ≠ .faulted (.uninitRegisterRead r) p)

/-- For every state with UNINIT = any, with d the count of free values drawn: a read of any register without a value
answers the free value number d, adds one to the count and leaves all else, the register without value among it; every
instruction but a helper call that goes through without a fault draws one free value for each operand it reads whose
register holds no value, a register read twice counting twice, and no other. So add of an immediate to a register
without a value gives the free value number d plus the immediate; add of two registers without values gives the sum of
the free values d and d + 1, two separate draws even for one register; exit at depth 1 with r0 without value ends the
run with the free value d. (The free values and their count are the model's form of the arbitrary value: logs 3 and
15. No statement depends on which values these are.) -/
def Obligations.UninitAnyReadsFreeValues : Prop :=
  (∀ (s : State) (r : Reg), s.params.uninit = .any → s.regs.get r = none →
    readReg r s = .done (Config.uninitRead s.params.run s.draws) { s with draws := s.draws + 1 }) ∧
  (∀ (i : Instr) (s t : State), s.params.uninit = .any → exec i s = .next t → (∀ c p, t.status ≠ .faulted c p) →
    (∀ id, i ≠ .callHelper id) → t.draws = s.draws + ((readOrder i).filter fun q => s.regs.get q == none).length) ∧
  ∀ (s : State) (rd rs : Reg) (imm : BitVec 32), s.params.uninit = .any →
    (s.regs.get rd = none → exec (.addImm rd imm) s = wrote { s with draws := s.draws + 1 } rd
      (Config.uninitRead s.params.run s.draws + BitVec.ofInt 64 imm.toInt)) ∧
    (s.regs.get rd = none → s.regs.get rs = none → exec (.addReg rd rs) s = wrote { s with draws := s.draws + 2 } rd
      (Config.uninitRead s.params.run s.draws + Config.uninitRead s.params.run (s.draws + 1))) ∧
    (s.regs.r0 = none → s.frames = [] → exec .exit s = .next { s with
      status := .exited (Config.uninitRead s.params.run s.draws), draws := s.draws + 1 })

/-- For every state, what ENV does before a step leaves registers, pc, the call stack, the status and the parameters
(PROG and PACKET among them) as they are; the memory it leaves is reached from the memory before by some number, 0
among them, of moves that the relation ENV relates; a byte outside the shared regions reads as before; under the
identity, the default ENV, the state is unchanged; under another ENV the moves are those of the draw: the first one
fixed in advance, or a free value when none is left. (The form of the relation and of its draws is the model's: log
6.) -/
def Obligations.EnvTouchesSharedMemoryOnly : Prop :=
  ∀ s : State,
    s.envStep = { s with mem := s.envStep.mem, envDraws := s.envStep.envDraws, draws := s.envStep.draws } ∧
    Relation.ReflTransGen (EnvRelates s.params) s.byteAt s.envStep.byteAt ∧
    (∀ a, isShared s.params a = false → s.envStep.byteAt a = s.byteAt a) ∧
    (s.params.env = .identity → s.envStep = s) ∧
    (s.params.env ≠ .identity → ∃ ds,
      ((s.envDraws = ds :: s.envStep.envDraws ∧ s.envStep.draws = s.draws) ∨
       (s.envDraws = [] ∧ s.envStep.envDraws = [] ∧ s.envStep.draws = s.draws + 1 ∧
        ds = Config.envDraw s.params.run s.draws)) ∧
      s.envStep.mem = (ds.foldl State.envMove s).mem)

/-- For all parameters of R7, MEM0 and the relations ENV and HELPERS among them: at launch r1 holds CTX and r10 holds
FP0, r0 and r2 to r9 hold no value, pc is 0, the call stack is empty, the status is Running, a byte that MEM0 gives
reads as given, and the parameters and the draws fixed in advance are those supplied; every other byte of memory reads
as a value that depends on the run and the address alone and that nothing constrains. (That this unspecified byte is
Config.initialByte is the model's choice: log 4; so are the forms of ENV, HELPERS and the parameters: logs 5, 6 and
7.) -/
def Obligations.LaunchState : Prop :=
  ∀ (p : Params) (mem0 : Memory) (envDraws : List (List (List Word))) (helperDraws : List (List Word)) (s : State),
    s = State.launch p mem0 envDraws helperDraws →
    s.regs = ⟨none, some p.ctx, none, none, none, none, none, none, none, none, p.fp0⟩ ∧
    s.pc = 0 ∧ s.frames = [] ∧ s.status = .running ∧
    s.params = p ∧ s.envDraws = envDraws ∧ s.helperDraws = helperDraws ∧
    (∀ a v, mem0.get a = some v → s.byteAt a = v) ∧
    (∀ a, mem0.get a = none → s.byteAt a = Config.initialByte p.run a)

/-- For every state whose ENV is the identity and whose slots at pc decode to an instruction other than a helper call:
after the step, every byte outside the bytes that the instruction's own store or atomic addresses reads as before,
listed or not. (The launch value of a byte is a free value: log 4.) -/
def Obligations.UnwrittenBytesAreFixed : Prop :=
  ∀ (s t : State) (i : Instr) (b : Nat), s.params.env = .identity → fetchInstr s = .ok i → (∀ id, i ≠ .callHelper id) →
    step s = .next t → (∀ a n k, accessRange i s = some (a, n, k) → k = .read ∨ b < a ∨ a + n ≤ b) →
    t.byteAt b = s.byteAt b

/-- In every state whose HELPERS has an entry for the number: for every result v and memory after that the entry
relates to what r1 to r5 hold and to the memory before, there is a draw with which the helper call answers a next
state with v in r0 and that memory. (The form of the relations and of the draws, and that the first entry of a number
counts, is the model's: log 5.) -/
def Obligations.EveryHelperOutcomeCanHappen : Prop :=
  ∀ (s : State) (id : BitVec 32) (r : HelperRel) (v : Word) (mem' : Nat → Byte),
    s.params.helpers.lookup id = some r →
    HelperRelates s.params r [s.regs.r1, s.regs.r2, s.regs.r3, s.regs.r4, s.regs.r5] s.byteAt v mem' →
    ∃ ws t, exec (.callHelper id) { s with helperDraws := [ws] } = .next t ∧ t.regs.r0 = some v ∧ t.byteAt = mem' 

/-- For every state, each memory that is reached from its memory by some number of moves that the relation ENV relates
is what ENV leaves before the next step, for some draw. (The form of the relation and of its draws is the model's: log
6.) -/
def Obligations.EveryEnvMoveCanHappen : Prop :=
  ∀ (s : State) (mem' : Nat → Byte), Relation.ReflTransGen (EnvRelates s.params) s.byteAt mem' →
    ∃ ds, State.byteAt (State.envStep { s with envDraws := [ds] }) = mem'
end

