-- ==== Sys2Proof/Laws/Memory.lean ====
section
/-! SUPPORT. The laws of data memory: a read after a write, and that every operation keeps the canonical form. -/

namespace Sys2Proof.Machine

@[simp] theorem Memory.get_nil (a : Nat) : Memory.get [] a = none := rfl

/-- A read of the byte just written gives the byte. -/
@[simp] theorem Memory.get_set_same (m : Memory) (a : Nat) (v : Byte) : (m.set a v).get a = some v := by
  induction m with
  | nil => simp [Memory.set, Memory.get]
  | cons c m ih =>
    simp only [Memory.set]
    split
    · simp [Memory.get]
    · split
      · simp [Memory.get]
      · simp [Memory.get, *]

/-- A write leaves every other byte. -/
theorem Memory.get_set_other (m : Memory) {a b : Nat} (v : Byte) (h : b ≠ a) : (m.set a v).get b = m.get b := by
  induction m with
  | nil => simp [Memory.set, Memory.get, h]
  | cons c m ih =>
    simp only [Memory.set]
    split
    · simp [Memory.get, h]
    · split
      · rename_i h1 h2; subst h2; simp [Memory.get, h]
      · simp [Memory.get, ih]

/-- Writing consecutive bytes leaves every byte outside them. -/
theorem Memory.get_setBytes_other (vs : List Byte) (m : Memory) {a b : Nat} (h : b < a ∨ a + vs.length ≤ b) :
    (m.setBytes a vs).get b = m.get b := by
  induction vs generalizing m a with
  | nil => rfl
  | cons v vs ih =>
    simp only [List.length_cons] at h
    rw [Memory.setBytes, ih _ (by omega), Memory.get_set_other _ _ (by omega)]

/-- A read of one of the consecutive bytes just written gives that byte. -/
theorem Memory.get_setBytes_mem (vs : List Byte) (m : Memory) (a : Nat) {i : Nat} (h : i < vs.length) :
    (m.setBytes a vs).get (a + i) = some vs[i] := by
  induction vs generalizing m a i with
  | nil => simp at h
  | cons v vs ih =>
    cases i with
    | zero => rw [Memory.setBytes, Memory.get_setBytes_other _ _ (by omega)]; simp
    | succ j =>
      have := ih (m.set a v) (a + 1) (i := j) (by simpa using h)
      rw [Memory.setBytes, show a + (j + 1) = a + 1 + j by omega, this]; simp

/-- Writing listed bytes leaves every address that is not listed. -/
theorem Memory.get_setCells_other (cs : List Host.Cell) (m : Memory) {b : Nat} (h : ∀ c ∈ cs, c.1 ≠ b) :
    (m.setCells cs).get b = m.get b := by
  induction cs generalizing m with
  | nil => rfl
  | cons c cs ih =>
    rw [Memory.setCells, ih _ fun d hd => h d (by simp [hd]), Memory.get_set_other _ _ (h c (by simp)).symm]

theorem Memory.set_risingAbove (m : Memory) (lo a : Nat) (v : Byte) (hm : Memory.risingAbove lo m = true) (h : lo < a) :
    Memory.risingAbove lo (m.set a v) = true := by
  induction m generalizing lo with
  | nil => simp [Memory.set, Memory.risingAbove, h]
  | cons c m ih =>
    simp only [Memory.risingAbove, Bool.and_eq_true, decide_eq_true_eq] at hm
    simp only [Memory.set]
    split
    · simp [Memory.risingAbove, *]
    · split
      · rename_i h1 h2; subst h2; simp [Memory.risingAbove, h, hm.2]
      · have := ih c.1 hm.2 (by omega)
        simp [Memory.risingAbove, hm.1, this]

/-- Writing one byte keeps the canonical form. -/
theorem Memory.wf_set (m : Memory) (a : Nat) (v : Byte) (h : m.wf = true) : (m.set a v).wf = true := by
  cases m with
  | nil => rfl
  | cons c m =>
    simp only [Memory.wf] at h
    simp only [Memory.set]
    split
    · simp [Memory.wf, Memory.risingAbove, *]
    · split
      · rename_i h1 h2; subst h2; exact h
      · exact Memory.set_risingAbove m c.1 a v h (by omega)

/-- Writing consecutive bytes keeps the canonical form. -/
theorem Memory.wf_setBytes (vs : List Byte) (m : Memory) (a : Nat) (h : m.wf = true) : (m.setBytes a vs).wf = true := by
  induction vs generalizing m a with
  | nil => exact h
  | cons v vs ih => exact ih _ _ (Memory.wf_set _ _ _ h)

/-- Writing listed bytes keeps the canonical form. -/
theorem Memory.wf_setCells (cs : List Host.Cell) (m : Memory) (h : m.wf = true) : (m.setCells cs).wf = true := by
  induction cs generalizing m with
  | nil => exact h
  | cons c cs ih => exact ih _ (Memory.wf_set _ _ _ h)

theorem Memory.forall_set {P : Nat → Prop} (m : Memory) (a : Nat) (v : Byte) (hm : ∀ c ∈ m, P c.1) (h : P a) :
    ∀ c ∈ m.set a v, P c.1 := by
  induction m with
  | nil => simpa [Memory.set] using h
  | cons c m ih =>
    simp only [List.mem_cons, forall_eq_or_imp] at hm
    simp only [Memory.set]
    split
    · simp only [List.mem_cons, forall_eq_or_imp]; exact ⟨h, hm.1, hm.2⟩
    · split
      · simp only [List.mem_cons, forall_eq_or_imp]; exact ⟨h, hm.2⟩
      · simp only [List.mem_cons, forall_eq_or_imp]; exact ⟨hm.1, ih hm.2⟩

/-- What holds of every listed address and of every address written holds of every address listed afterwards. -/
theorem Memory.forall_setBytes {P : Nat → Prop} (vs : List Byte) (m : Memory) (a : Nat) (hm : ∀ c ∈ m, P c.1)
    (h : ∀ i < vs.length, P (a + i)) : ∀ c ∈ m.setBytes a vs, P c.1 := by
  induction vs generalizing m a with
  | nil => exact hm
  | cons v vs ih =>
    refine ih _ _ (Memory.forall_set m a v hm (by simpa using h 0 (by simp))) fun i hi => ?_
    have := h (i + 1) (by simpa using hi)
    rwa [show a + (i + 1) = a + 1 + i by omega] at this

/-- The same for a write of listed bytes. -/
theorem Memory.forall_setCells {P : Nat → Prop} (cs : List Host.Cell) (m : Memory) (hm : ∀ c ∈ m, P c.1)
    (h : ∀ c ∈ cs, P c.1) : ∀ c ∈ m.setCells cs, P c.1 := by
  induction cs generalizing m with
  | nil => exact hm
  | cons c cs ih =>
    exact ih _ (Memory.forall_set m c.1 c.2 hm (h c (by simp))) fun d hd => h d (by simp [hd])

end Sys2Proof.Machine
end

