-- ==== Sys2Proof/Laws/Registers.lean ====
section
/-! SUPPORT. The laws of the register file. -/

namespace Sys2Proof.Machine

@[simp] theorem RegFile.get_r10 (f : RegFile) : f.get .r10 = some f.r10 := rfl

/-- A write that is not to r10 gives the register the value (rule R22). -/
theorem RegFile.get_set_same (f : RegFile) {r : Reg} (v : Word) (h : r ≠ .r10) : (f.set r v).get r = some v := by
  cases r <;> first | rfl | exact absurd rfl h

/-- A write leaves every other register. -/
theorem RegFile.get_set_other (f : RegFile) {r q : Reg} (v : Word) (h : q ≠ r) : (f.set r v).get q = f.get q := by
  cases r <;> cases q <;> first | rfl | exact absurd rfl h

/-- r10 is read-only (rule R24). -/
@[simp] theorem RegFile.set_r10 (f : RegFile) (r : Reg) (v : Word) : (f.set r v).r10 = f.r10 := by cases r <;> rfl

@[simp] theorem RegFile.dropArgs_r10 (f : RegFile) : f.dropArgs.r10 = f.r10 := rfl

/-- r1 to r5 lose their value, every other register keeps what it holds (rule R22). -/
theorem RegFile.get_dropArgs (f : RegFile) (r : Reg) :
    f.dropArgs.get r = if r ∈ [Reg.r1, .r2, .r3, .r4, .r5] then none else f.get r := by
  cases r <;> simp [RegFile.dropArgs, RegFile.get]

@[simp] theorem RegFile.enter_r10 (f : RegFile) (k : Nat) : (f.enter k).r10 = f.r10 - BitVec.ofNat 64 k := rfl

/-- At the entry of a local function r1 to r5 are kept and r0 and r6 to r9 hold no value (rule R315). -/
theorem RegFile.get_enter (f : RegFile) (k : Nat) (r : Reg) (h : r ≠ .r10) :
    (f.enter k).get r = if r ∈ [Reg.r1, .r2, .r3, .r4, .r5] then f.get r else none := by
  cases r <;> first | exact absurd rfl h | simp [RegFile.enter, RegFile.get]

end Sys2Proof.Machine
end

