-- ==== Sys2Proof/Laws/State.lean ====
section
/-! SUPPORT. One lemma per field for each update of the state. -/

namespace Sys2Proof.Machine

@[simp] theorem State.raise_regs (s : State) (c : FaultCause) : (s.raise c).regs = s.regs := rfl
@[simp] theorem State.raise_pc (s : State) (c : FaultCause) : (s.raise c).pc = s.pc := rfl
@[simp] theorem State.raise_frames (s : State) (c : FaultCause) : (s.raise c).frames = s.frames := rfl
@[simp] theorem State.raise_mem (s : State) (c : FaultCause) : (s.raise c).mem = s.mem := rfl
@[simp] theorem State.raise_status (s : State) (c : FaultCause) : (s.raise c).status = .faulted c s.pc := rfl
@[simp] theorem State.raise_params (s : State) (c : FaultCause) : (s.raise c).params = s.params := rfl
@[simp] theorem State.raise_envDraws (s : State) (c : FaultCause) : (s.raise c).envDraws = s.envDraws := rfl
@[simp] theorem State.raise_helperDraws (s : State) (c : FaultCause) : (s.raise c).helperDraws = s.helperDraws := rfl
@[simp] theorem State.raise_draws (s : State) (c : FaultCause) : (s.raise c).draws = s.draws := rfl

@[simp] theorem State.exitWith_regs (s : State) (v : Word) : (s.exitWith v).regs = s.regs := rfl
@[simp] theorem State.exitWith_pc (s : State) (v : Word) : (s.exitWith v).pc = s.pc := rfl
@[simp] theorem State.exitWith_frames (s : State) (v : Word) : (s.exitWith v).frames = s.frames := rfl
@[simp] theorem State.exitWith_mem (s : State) (v : Word) : (s.exitWith v).mem = s.mem := rfl
@[simp] theorem State.exitWith_status (s : State) (v : Word) : (s.exitWith v).status = .exited v := rfl
@[simp] theorem State.exitWith_params (s : State) (v : Word) : (s.exitWith v).params = s.params := rfl
@[simp] theorem State.exitWith_envDraws (s : State) (v : Word) : (s.exitWith v).envDraws = s.envDraws := rfl
@[simp] theorem State.exitWith_helperDraws (s : State) (v : Word) : (s.exitWith v).helperDraws = s.helperDraws := rfl
@[simp] theorem State.exitWith_draws (s : State) (v : Word) : (s.exitWith v).draws = s.draws := rfl

@[simp] theorem State.withDraws_regs (s : State) (k : Nat) : (s.withDraws k).regs = s.regs := rfl
@[simp] theorem State.withDraws_pc (s : State) (k : Nat) : (s.withDraws k).pc = s.pc := rfl
@[simp] theorem State.withDraws_frames (s : State) (k : Nat) : (s.withDraws k).frames = s.frames := rfl
@[simp] theorem State.withDraws_mem (s : State) (k : Nat) : (s.withDraws k).mem = s.mem := rfl
@[simp] theorem State.withDraws_status (s : State) (k : Nat) : (s.withDraws k).status = s.status := rfl
@[simp] theorem State.withDraws_params (s : State) (k : Nat) : (s.withDraws k).params = s.params := rfl
@[simp] theorem State.withDraws_envDraws (s : State) (k : Nat) : (s.withDraws k).envDraws = s.envDraws := rfl
@[simp] theorem State.withDraws_helperDraws (s : State) (k : Nat) : (s.withDraws k).helperDraws = s.helperDraws := rfl
@[simp] theorem State.withDraws_draws (s : State) (k : Nat) : (s.withDraws k).draws = k := rfl

@[simp] theorem State.setReg_regs (s : State) (r : Reg) (v : Word) : (s.setReg r v).regs = s.regs.set r v := rfl
@[simp] theorem State.setReg_pc (s : State) (r : Reg) (v : Word) : (s.setReg r v).pc = s.pc := rfl
@[simp] theorem State.setReg_frames (s : State) (r : Reg) (v : Word) : (s.setReg r v).frames = s.frames := rfl
@[simp] theorem State.setReg_mem (s : State) (r : Reg) (v : Word) : (s.setReg r v).mem = s.mem := rfl
@[simp] theorem State.setReg_status (s : State) (r : Reg) (v : Word) : (s.setReg r v).status = s.status := rfl
@[simp] theorem State.setReg_params (s : State) (r : Reg) (v : Word) : (s.setReg r v).params = s.params := rfl
@[simp] theorem State.setReg_envDraws (s : State) (r : Reg) (v : Word) : (s.setReg r v).envDraws = s.envDraws := rfl
@[simp] theorem State.setReg_helperDraws (s : State) (r : Reg) (v : Word) : (s.setReg r v).helperDraws = s.helperDraws := rfl
@[simp] theorem State.setReg_draws (s : State) (r : Reg) (v : Word) : (s.setReg r v).draws = s.draws := rfl

@[simp] theorem State.advance_regs (s : State) (k : Int) : (s.advance k).regs = s.regs := rfl
@[simp] theorem State.advance_pc (s : State) (k : Int) : (s.advance k).pc = s.pc + k := rfl
@[simp] theorem State.advance_frames (s : State) (k : Int) : (s.advance k).frames = s.frames := rfl
@[simp] theorem State.advance_mem (s : State) (k : Int) : (s.advance k).mem = s.mem := rfl
@[simp] theorem State.advance_status (s : State) (k : Int) : (s.advance k).status = s.status := rfl
@[simp] theorem State.advance_params (s : State) (k : Int) : (s.advance k).params = s.params := rfl
@[simp] theorem State.advance_envDraws (s : State) (k : Int) : (s.advance k).envDraws = s.envDraws := rfl
@[simp] theorem State.advance_helperDraws (s : State) (k : Int) : (s.advance k).helperDraws = s.helperDraws := rfl
@[simp] theorem State.advance_draws (s : State) (k : Int) : (s.advance k).draws = s.draws := rfl

@[simp] theorem State.goto_regs (s : State) (t : Int) : (s.goto t).regs = s.regs := rfl
@[simp] theorem State.goto_pc (s : State) (t : Int) : (s.goto t).pc = t := rfl
@[simp] theorem State.goto_frames (s : State) (t : Int) : (s.goto t).frames = s.frames := rfl
@[simp] theorem State.goto_mem (s : State) (t : Int) : (s.goto t).mem = s.mem := rfl
@[simp] theorem State.goto_status (s : State) (t : Int) : (s.goto t).status = s.status := rfl
@[simp] theorem State.goto_params (s : State) (t : Int) : (s.goto t).params = s.params := rfl
@[simp] theorem State.goto_envDraws (s : State) (t : Int) : (s.goto t).envDraws = s.envDraws := rfl
@[simp] theorem State.goto_helperDraws (s : State) (t : Int) : (s.goto t).helperDraws = s.helperDraws := rfl
@[simp] theorem State.goto_draws (s : State) (t : Int) : (s.goto t).draws = s.draws := rfl

@[simp] theorem State.storeAt_regs (s : State) (a n : Nat) (v : BitVec (8 * n)) : (s.storeAt a n v).regs = s.regs := rfl
@[simp] theorem State.storeAt_pc (s : State) (a n : Nat) (v : BitVec (8 * n)) : (s.storeAt a n v).pc = s.pc := rfl
@[simp] theorem State.storeAt_frames (s : State) (a n : Nat) (v : BitVec (8 * n)) : (s.storeAt a n v).frames = s.frames := rfl
@[simp] theorem State.storeAt_mem (s : State) (a n : Nat) (v : BitVec (8 * n)) : (s.storeAt a n v).mem = s.mem.setBytes a (inOrder s.params.endian (littleBytes n v.toNat)) := rfl
@[simp] theorem State.storeAt_status (s : State) (a n : Nat) (v : BitVec (8 * n)) : (s.storeAt a n v).status = s.status := rfl
@[simp] theorem State.storeAt_params (s : State) (a n : Nat) (v : BitVec (8 * n)) : (s.storeAt a n v).params = s.params := rfl
@[simp] theorem State.storeAt_envDraws (s : State) (a n : Nat) (v : BitVec (8 * n)) : (s.storeAt a n v).envDraws = s.envDraws := rfl
@[simp] theorem State.storeAt_helperDraws (s : State) (a n : Nat) (v : BitVec (8 * n)) : (s.storeAt a n v).helperDraws = s.helperDraws := rfl
@[simp] theorem State.storeAt_draws (s : State) (a n : Nat) (v : BitVec (8 * n)) : (s.storeAt a n v).draws = s.draws := rfl

@[simp] theorem State.packetLoaded_regs (s : State) (v : Word) : (s.packetLoaded v).regs = (s.regs.set .r0 v).dropArgs := rfl
@[simp] theorem State.packetLoaded_pc (s : State) (v : Word) : (s.packetLoaded v).pc = s.pc := rfl
@[simp] theorem State.packetLoaded_frames (s : State) (v : Word) : (s.packetLoaded v).frames = s.frames := rfl
@[simp] theorem State.packetLoaded_mem (s : State) (v : Word) : (s.packetLoaded v).mem = s.mem := rfl
@[simp] theorem State.packetLoaded_status (s : State) (v : Word) : (s.packetLoaded v).status = s.status := rfl
@[simp] theorem State.packetLoaded_params (s : State) (v : Word) : (s.packetLoaded v).params = s.params := rfl
@[simp] theorem State.packetLoaded_envDraws (s : State) (v : Word) : (s.packetLoaded v).envDraws = s.envDraws := rfl
@[simp] theorem State.packetLoaded_helperDraws (s : State) (v : Word) : (s.packetLoaded v).helperDraws = s.helperDraws := rfl
@[simp] theorem State.packetLoaded_draws (s : State) (v : Word) : (s.packetLoaded v).draws = s.draws := rfl

@[simp] theorem State.enterCall_regs (s : State) (d : BitVec 32) : (s.enterCall d).regs = s.regs.enter s.params.frameStride := rfl
@[simp] theorem State.enterCall_pc (s : State) (d : BitVec 32) : (s.enterCall d).pc = jumpTarget s.pc d := rfl
@[simp] theorem State.enterCall_frames (s : State) (d : BitVec 32) : (s.enterCall d).frames = s.frames ++ [s.callFrame] := rfl
@[simp] theorem State.enterCall_mem (s : State) (d : BitVec 32) : (s.enterCall d).mem = s.mem := rfl
@[simp] theorem State.enterCall_status (s : State) (d : BitVec 32) : (s.enterCall d).status = s.status := rfl
@[simp] theorem State.enterCall_params (s : State) (d : BitVec 32) : (s.enterCall d).params = s.params := rfl
@[simp] theorem State.enterCall_envDraws (s : State) (d : BitVec 32) : (s.enterCall d).envDraws = s.envDraws := rfl
@[simp] theorem State.enterCall_helperDraws (s : State) (d : BitVec 32) : (s.enterCall d).helperDraws = s.helperDraws := rfl
@[simp] theorem State.enterCall_draws (s : State) (d : BitVec 32) : (s.enterCall d).draws = s.draws := rfl

@[simp] theorem State.returnTo_regs (s : State) (f : Frame) : (s.returnTo f).regs = s.regs.restore f := rfl
@[simp] theorem State.returnTo_pc (s : State) (f : Frame) : (s.returnTo f).pc = f.ret := rfl
@[simp] theorem State.returnTo_frames (s : State) (f : Frame) : (s.returnTo f).frames = s.frames.dropLast := rfl
@[simp] theorem State.returnTo_mem (s : State) (f : Frame) : (s.returnTo f).mem = s.mem := rfl
@[simp] theorem State.returnTo_status (s : State) (f : Frame) : (s.returnTo f).status = s.status := rfl
@[simp] theorem State.returnTo_params (s : State) (f : Frame) : (s.returnTo f).params = s.params := rfl
@[simp] theorem State.returnTo_envDraws (s : State) (f : Frame) : (s.returnTo f).envDraws = s.envDraws := rfl
@[simp] theorem State.returnTo_helperDraws (s : State) (f : Frame) : (s.returnTo f).helperDraws = s.helperDraws := rfl
@[simp] theorem State.returnTo_draws (s : State) (f : Frame) : (s.returnTo f).draws = s.draws := rfl

@[simp] theorem State.afterHelper_regs (s : State) (o : HelperOutcome) : (s.afterHelper o).regs = (s.regs.set .r0 o.result).dropArgs := rfl
@[simp] theorem State.afterHelper_pc (s : State) (o : HelperOutcome) : (s.afterHelper o).pc = s.pc + 1 := rfl
@[simp] theorem State.afterHelper_frames (s : State) (o : HelperOutcome) : (s.afterHelper o).frames = s.frames := rfl
@[simp] theorem State.afterHelper_mem (s : State) (o : HelperOutcome) : (s.afterHelper o).mem = s.mem.setCells (o.writes.filter fun c => isMapped s.params c.1) := rfl
@[simp] theorem State.afterHelper_status (s : State) (o : HelperOutcome) : (s.afterHelper o).status = s.status := rfl
@[simp] theorem State.afterHelper_params (s : State) (o : HelperOutcome) : (s.afterHelper o).params = s.params := rfl
@[simp] theorem State.afterHelper_envDraws (s : State) (o : HelperOutcome) : (s.afterHelper o).envDraws = s.envDraws := rfl
@[simp] theorem State.afterHelper_helperDraws (s : State) (o : HelperOutcome) : (s.afterHelper o).helperDraws = s.helperDraws := rfl
@[simp] theorem State.afterHelper_draws (s : State) (o : HelperOutcome) : (s.afterHelper o).draws = s.draws := rfl

@[simp] theorem State.withDraws_withDraws (s : State) (j k : Nat) : (s.withDraws j).withDraws k = s.withDraws k := rfl

/-- Drawing for `ENV` changes the draws only. -/
theorem drawEnv_state (s : State) :
    (drawEnv s).2 = { s with envDraws := s.envDraws.tail, draws := (drawEnv s).2.draws } := by
  unfold drawEnv; split <;> simp_all [State.withDraws]

/-- A drawn step of `ENV` uses one draw fixed in advance, or one more free value. -/
theorem drawEnv_draws (s : State) :
    (drawEnv s).2.draws = if s.envDraws = [] then s.draws + 1 else s.draws := by
  unfold drawEnv; split <;> simp_all [State.withDraws]

/-- Drawing for a helper changes the draws only. -/
theorem drawHelper_state (s : State) :
    (drawHelper s).2 = { s with helperDraws := s.helperDraws.tail, draws := (drawHelper s).2.draws } := by
  unfold drawHelper; split <;> simp_all [State.withDraws]

/-- A helper call uses one draw fixed in advance, or one more free value. -/
theorem drawHelper_draws (s : State) :
    (drawHelper s).2.draws = if s.helperDraws = [] then s.draws + 1 else s.draws := by
  unfold drawHelper; split <;> simp_all [State.withDraws]

@[simp] theorem drawEnv_regs (s : State) : (drawEnv s).2.regs = s.regs := by rw [drawEnv_state]
@[simp] theorem drawEnv_pc (s : State) : (drawEnv s).2.pc = s.pc := by rw [drawEnv_state]
@[simp] theorem drawEnv_frames (s : State) : (drawEnv s).2.frames = s.frames := by rw [drawEnv_state]
@[simp] theorem drawEnv_mem (s : State) : (drawEnv s).2.mem = s.mem := by rw [drawEnv_state]
@[simp] theorem drawEnv_status (s : State) : (drawEnv s).2.status = s.status := by rw [drawEnv_state]
@[simp] theorem drawEnv_params (s : State) : (drawEnv s).2.params = s.params := by rw [drawEnv_state]
@[simp] theorem drawEnv_envDraws (s : State) : (drawEnv s).2.envDraws = s.envDraws.tail := by rw [drawEnv_state]
@[simp] theorem drawEnv_helperDraws (s : State) : (drawEnv s).2.helperDraws = s.helperDraws := by rw [drawEnv_state]

@[simp] theorem drawHelper_regs (s : State) : (drawHelper s).2.regs = s.regs := by rw [drawHelper_state]
@[simp] theorem drawHelper_pc (s : State) : (drawHelper s).2.pc = s.pc := by rw [drawHelper_state]
@[simp] theorem drawHelper_frames (s : State) : (drawHelper s).2.frames = s.frames := by rw [drawHelper_state]
@[simp] theorem drawHelper_mem (s : State) : (drawHelper s).2.mem = s.mem := by rw [drawHelper_state]
@[simp] theorem drawHelper_status (s : State) : (drawHelper s).2.status = s.status := by rw [drawHelper_state]
@[simp] theorem drawHelper_params (s : State) : (drawHelper s).2.params = s.params := by rw [drawHelper_state]
@[simp] theorem drawHelper_envDraws (s : State) : (drawHelper s).2.envDraws = s.envDraws := by rw [drawHelper_state]
@[simp] theorem drawHelper_helperDraws (s : State) : (drawHelper s).2.helperDraws = s.helperDraws.tail := by rw [drawHelper_state]

@[simp] theorem State.envMove_regs (s : State) (ws : List Word) : (s.envMove ws).regs = s.regs := rfl
@[simp] theorem State.envMove_pc (s : State) (ws : List Word) : (s.envMove ws).pc = s.pc := rfl
@[simp] theorem State.envMove_frames (s : State) (ws : List Word) : (s.envMove ws).frames = s.frames := rfl
@[simp] theorem State.envMove_status (s : State) (ws : List Word) : (s.envMove ws).status = s.status := rfl
@[simp] theorem State.envMove_params (s : State) (ws : List Word) : (s.envMove ws).params = s.params := rfl
@[simp] theorem State.envMove_envDraws (s : State) (ws : List Word) : (s.envMove ws).envDraws = s.envDraws := rfl
@[simp] theorem State.envMove_helperDraws (s : State) (ws : List Word) : (s.envMove ws).helperDraws = s.helperDraws := rfl
@[simp] theorem State.envMove_draws (s : State) (ws : List Word) : (s.envMove ws).draws = s.draws := rfl
@[simp] theorem State.envMove_mem (s : State) (ws : List Word) : (s.envMove ws).mem = s.mem.setCells ((envCells s.params.env ws s.byteAt).filter fun c => isShared s.params c.1) := rfl

/-- Any number of moves of `ENV` leaves everything but memory (rule R416). -/
theorem State.envMoves_eq (ds : List (List Word)) (s : State) :
    ds.foldl State.envMove s = { s with mem := (ds.foldl State.envMove s).mem } := by
  induction ds generalizing s with
  | nil => rfl
  | cons ws ds ih => rw [List.foldl_cons, ih]; rfl

/-- What moves of `ENV` leave in memory does not depend on the draws. -/
theorem State.envMoves_mem (ds : List (List Word)) (s : State) (e : List (List (List Word))) (k : Nat) :
    (ds.foldl State.envMove { s with envDraws := e, draws := k }).mem = (ds.foldl State.envMove s).mem := by
  induction ds generalizing s with
  | nil => rfl
  | cons ws ds ih => exact ih (s.envMove ws)

/-- The memory that `ENV` leaves before a step, when it is not the identity: that after the drawn moves. -/
theorem State.envStep_mem {s : State} (h : s.params.env ≠ .identity) :
    s.envStep.mem = ((drawEnv s).1.foldl State.envMove s).mem := by
  rw [State.envStep, if_neg h, drawEnv_state, State.envMoves_mem]

/-- Before a step `ENV` leaves everything but memory and its draws (rule R416). -/
theorem State.envStep_eq (s : State) :
    s.envStep = { s with mem := s.envStep.mem, envDraws := s.envStep.envDraws, draws := s.envStep.draws } := by
  unfold State.envStep
  split
  · rfl
  · rw [State.envMoves_eq, drawEnv_state]

@[simp] theorem State.envStep_regs (s : State) : s.envStep.regs = s.regs := by rw [State.envStep_eq]
@[simp] theorem State.envStep_pc (s : State) : s.envStep.pc = s.pc := by rw [State.envStep_eq]
@[simp] theorem State.envStep_frames (s : State) : s.envStep.frames = s.frames := by rw [State.envStep_eq]
@[simp] theorem State.envStep_status (s : State) : s.envStep.status = s.status := by rw [State.envStep_eq]
@[simp] theorem State.envStep_params (s : State) : s.envStep.params = s.params := by rw [State.envStep_eq]
@[simp] theorem State.envStep_helperDraws (s : State) : s.envStep.helperDraws = s.helperDraws := by rw [State.envStep_eq]

/-- Before a step `ENV` takes one draw, unless it is the identity. -/
theorem State.envStep_envDraws (s : State) :
    s.envStep.envDraws = if s.params.env = .identity then s.envDraws else s.envDraws.tail := by
  unfold State.envStep
  split
  · rfl
  · rw [State.envMoves_eq, drawEnv_state]

/-- The free values that `ENV` draws before a step: none when it is the identity or its draw is fixed in advance, else
one. -/
theorem State.envStep_draws (s : State) :
    s.envStep.draws = if s.params.env ≠ .identity ∧ s.envDraws = [] then s.draws + 1 else s.draws := by
  unfold State.envStep
  split
  · simp_all
  · rw [State.envMoves_eq]; simp_all [drawEnv_draws]

theorem State.draws_le_envStep (s : State) : s.draws ≤ s.envStep.draws := by
  rw [State.envStep_draws]; split <;> omega

end Sys2Proof.Machine
end

