-- ==== Sys2Proof/Laws/Ops.lean ====
section
/-! SUPPORT. For each shared operation, once, everything it can do. -/

namespace Sys2Proof.Machine

/-! ### The result of an instruction -/

@[simp] theorem Res.bind_done {α β : Type} (a : α) (s : State) (k : α → State → Res β) :
    (Res.done a s).bind k = k a s := rfl

@[simp] theorem Res.bind_raised {α β : Type} (c : FaultCause) (k : α → State → Res β) :
    (Res.raised c : Res α).bind k = .raised c := rfl

/-- A sequence goes through exactly when both parts do. -/
theorem Res.bind_eq_done {α β : Type} {r : Res α} {k : α → State → Res β} {b : β} {t : State} :
    r.bind k = .done b t ↔ ∃ a s, r = .done a s ∧ k a s = .done b t := by
  cases r <;> simp

/-- A sequence faults in its first part, or in its second after the first went through. -/
theorem Res.bind_eq_raised {α β : Type} {r : Res α} {k : α → State → Res β} {c : FaultCause} :
    r.bind k = .raised c ↔ r = .raised c ∨ ∃ a s, r = .done a s ∧ k a s = .raised c := by
  cases r <;> simp

@[simp] theorem commit_done (s t : State) (u : Unit) : commit s (.done u t) = .next t := rfl

@[simp] theorem commit_raised (s : State) (c : FaultCause) : commit s (.raised c) = .next (s.raise c) := rfl

/-- An instruction's next state is what it leaves, or the state it began in with a fault taken. -/
theorem commit_cases {s t : State} {r : Res Unit} (h : commit s r = .next t) :
    r = .done () t ∨ ∃ c, r = .raised c ∧ t = s.raise c := by
  cases r with
  | done u s' => cases h; exact .inl rfl
  | raised c => cases h; exact .inr ⟨c, rfl, rfl⟩

/-! ### Registers -/

/-- Reading a register that holds a value (rule R22). -/
theorem readReg_value {r : Reg} {s : State} {v : Word} (h : s.regs.get r = some v) : readReg r s = .done v s := by
  simp [readReg, h]

/-- Reading a register that holds no value, under `UNINIT = fault` (rule R404). -/
theorem readReg_fault {r : Reg} {s : State} (h : s.regs.get r = none) (hu : s.params.uninit = .fault) :
    readReg r s = .raised (.uninitRegisterRead r) := by
  simp [readReg, h, hu]

/-- Reading a register that holds no value, under `UNINIT = any` (rule R22). -/
theorem readReg_any {r : Reg} {s : State} (h : s.regs.get r = none) (hu : s.params.uninit = .any) :
    readReg r s = .done (Config.uninitRead s.params.run s.draws) (s.withDraws (s.draws + 1)) := by
  simp [readReg, h, hu]

/-- Everything a register read can do when it goes through. -/
theorem readReg_done {r : Reg} {s t : State} {v : Word} (h : readReg r s = .done v t) :
    (s.regs.get r = some v ∧ t = s) ∨
    (s.regs.get r = none ∧ s.params.uninit = .any ∧ v = Config.uninitRead s.params.run s.draws ∧
      t = s.withDraws (s.draws + 1)) := by
  unfold readReg at h
  split at h
  · cases h; exact .inl ⟨by assumption, rfl⟩
  · split at h
    · cases h
    · cases h; exact .inr ⟨by assumption, by assumption, rfl, rfl⟩

/-- Everything a register read can raise. -/
theorem readReg_raised {r : Reg} {s : State} {c : FaultCause} (h : readReg r s = .raised c) :
    s.regs.get r = none ∧ s.params.uninit = .fault ∧ c = .uninitRegisterRead r := by
  unfold readReg at h
  split at h
  · cases h
  · split at h
    · cases h; exact ⟨by assumption, by assumption, rfl⟩
    · cases h

/-- A register read changes at most the count of draws. -/
theorem readReg_state {r : Reg} {s t : State} {v : Word} (h : readReg r s = .done v t) :
    t = s.withDraws t.draws := by
  obtain ⟨-, rfl⟩ | ⟨-, -, -, rfl⟩ := readReg_done h <;> rfl

/-! ### Data memory -/

/-- What the checks answer for an access that passes them (rules R56 to R59). -/
theorem checkAccess_none {p : Params} {ea : Word} {n : Nat} {k : AccessKind} (h : checkAccess p ea n k = none) :
    (ea.toNat % n = 0 ∧ accessible p.regions ea.toNat n k = true) ∨
    (ea.toNat % n ≠ 0 ∧ k ≠ .readwrite ∧ p.align = .split ∧ accessibleBytes p.regions ea.toNat k n = true) := by
  unfold checkAccess at h
  split at h
  · split at h
    · exact .inl ⟨by assumption, by assumption⟩
    · cases h
  · split at h
    · split at h
      · rename_i h1 h2 h3; exact .inr ⟨h1, h2.1, h2.2, h3⟩
      · cases h
    · cases h

/-- What the checks raise (rules R405, R406). -/
theorem checkAccess_some {p : Params} {ea : Word} {n : Nat} {k : AccessKind} {c : FaultCause}
    (h : checkAccess p ea n k = some c) : c = .memoryAccessFault ea n k ∨ c = .misalignedAccess ea n := by
  unfold checkAccess at h
  split at h
  · split at h
    · cases h
    · cases h; exact .inl rfl
  · split at h
    · split at h
      · cases h
      · cases h; exact .inl rfl
    · cases h; exact .inr rfl

theorem memRead_done {ea : Word} {n : Nat} {s t : State} {v : BitVec (8 * n)} (h : memRead ea n s = .done v t) :
    checkAccess s.params ea n .read = none ∧ v = s.valueAt ea.toNat n ∧ t = s := by
  unfold memRead at h
  split at h
  · cases h
  · cases h; exact ⟨by assumption, rfl, rfl⟩

theorem memRead_raised {ea : Word} {n : Nat} {s : State} {c : FaultCause} (h : memRead ea n s = .raised c) :
    checkAccess s.params ea n .read = some c := by
  unfold memRead at h
  split at h
  · cases h; assumption
  · cases h

theorem memWrite_done {ea : Word} {n : Nat} {s t : State} {v : BitVec (8 * n)} (h : memWrite ea n v s = .done () t) :
    checkAccess s.params ea n .write = none ∧ t = s.storeAt ea.toNat n v := by
  unfold memWrite at h
  split at h
  · cases h
  · cases h; exact ⟨by assumption, rfl⟩

theorem memWrite_raised {ea : Word} {n : Nat} {s : State} {v : BitVec (8 * n)} {c : FaultCause}
    (h : memWrite ea n v s = .raised c) : checkAccess s.params ea n .write = some c := by
  unfold memWrite at h
  split at h
  · cases h; assumption
  · cases h

theorem atomicRMW_done {ea : Word} {n : Nat} {f : BitVec (8 * n) → BitVec (8 * n)} {s t : State} {v : BitVec (8 * n)}
    (h : atomicRMW ea n f s = .done v t) :
    checkAccess s.params ea n .readwrite = none ∧ v = s.valueAt ea.toNat n ∧
      t = s.storeAt ea.toNat n (f (s.valueAt ea.toNat n)) := by
  unfold atomicRMW at h
  split at h
  · cases h
  · cases h; exact ⟨by assumption, rfl, rfl⟩

theorem atomicRMW_raised {ea : Word} {n : Nat} {f : BitVec (8 * n) → BitVec (8 * n)} {s : State} {c : FaultCause}
    (h : atomicRMW ea n f s = .raised c) : checkAccess s.params ea n .readwrite = some c := by
  unfold atomicRMW at h
  split at h
  · cases h; assumption
  · cases h

@[simp] theorem State.length_bytesAt (s : State) (a n : Nat) : (s.bytesAt a n).length = n := by
  induction n generalizing a with
  | zero => rfl
  | succ n ih => simp [State.bytesAt, ih]

/-- The i-th of n bytes from a on is the byte at a + i. -/
theorem State.getElem_bytesAt (s : State) (a n : Nat) {i : Nat} (h : i < (s.bytesAt a n).length) :
    (s.bytesAt a n)[i] = s.byteAt (a + i) := by
  induction n generalizing a i with
  | zero => simp at h
  | succ n ih =>
    cases i with
    | zero => rfl
    | succ j =>
      simp only [State.bytesAt, List.getElem_cons_succ]
      rw [ih, show a + 1 + j = a + (j + 1) by omega]

@[simp] theorem length_littleBytes (n v : Nat) : (littleBytes n v).length = n := by
  induction n generalizing v with
  | zero => rfl
  | succ n ih => simp [littleBytes, ih]

@[simp] theorem length_inOrder (e : Endian) (bs : List Byte) : (inOrder e bs).length = bs.length := by
  cases e <;> simp [inOrder]

@[simp] theorem inOrder_inOrder (e : Endian) (bs : List Byte) : inOrder e (inOrder e bs) = bs := by
  cases e <;> simp [inOrder]

/-- The bytes of a number spell the number again, modulo 256^n. -/
theorem littleValue_littleBytes (n v : Nat) : littleValue (littleBytes n v) = v % 256 ^ n := by
  induction n generalizing v with
  | zero => simp [littleBytes, littleValue, Nat.mod_one]
  | succ n ih =>
    simp only [littleBytes, littleValue, ih, BitVec.toNat_ofNat]
    rw [show (2 : Nat) ^ 8 = 256 by norm_num, Nat.pow_succ', Nat.mod_mul]

/-- n bytes spell a number below 256^n. -/
theorem littleValue_lt (bs : List Byte) : littleValue bs < 256 ^ bs.length := by
  induction bs with
  | nil => simp [littleValue]
  | cons b bs ih =>
    have := b.isLt
    simp only [littleValue, List.length_cons, Nat.pow_succ']
    omega

/-- A store leaves every byte outside the stored ones. -/
theorem State.byteAt_storeAt_other (s : State) {a n b : Nat} (v : BitVec (8 * n)) (h : b < a ∨ a + n ≤ b) :
    (s.storeAt a n v).byteAt b = s.byteAt b := by
  unfold State.byteAt
  rw [State.storeAt_mem, Memory.get_setBytes_other _ _ (by simpa using h)]
  rfl

/-- The bytes stored, in ascending address order (rule R60). -/
theorem State.bytesAt_storeAt (s : State) (a n : Nat) (v : BitVec (8 * n)) :
    (s.storeAt a n v).bytesAt a n = inOrder s.params.endian (littleBytes n v.toNat) := by
  apply List.ext_getElem
  · simp
  · intro i h1 h2
    rw [State.getElem_bytesAt]
    simp only [State.byteAt, State.storeAt_mem]
    rw [Memory.get_setBytes_mem _ _ _ h2]; rfl

/-- A read of the value just stored gives the value (rules R60, R64). -/
theorem State.valueAt_storeAt (s : State) (a n : Nat) (v : BitVec (8 * n)) :
    (s.storeAt a n v).valueAt a n = v := by
  apply BitVec.eq_of_toNat_eq
  simp only [State.valueAt, State.bytesAt_storeAt, State.storeAt_params, inOrder_inOrder, littleValue_littleBytes,
    BitVec.toNat_ofNat]
  rw [show (256 : Nat) ^ n = 2 ^ (8 * n) by rw [pow_mul]; norm_num, Nat.mod_mod, Nat.mod_eq_of_lt v.isLt]

/-! ### Packet, calls, returns, helpers -/

/-- Everything a packet access can do when it goes through (rule R245). -/
theorem packetAccess_done {n : Nat} {c : Word} {k : Int} {s t : State} (h : packetAccess n c k s = .done () t) :
    c = s.params.ctx ∧
    (((k < 0 ∨ (s.params.packet.length : Int) < k + n) ∧ t = s.exitWith 0) ∨
     (¬(k < 0 ∨ (s.params.packet.length : Int) < k + n) ∧
      t = (s.packetLoaded (packetValue s.params.packet k.toNat n)).advance 1)) := by
  unfold packetAccess at h
  split at h
  · cases h
  · rename_i hc
    refine ⟨by simpa using hc, ?_⟩
    split at h
    · rename_i hk; cases h; exact .inl ⟨hk, rfl⟩
    · rename_i hk; cases h; exact .inr ⟨hk, rfl⟩

theorem packetAccess_raised {n : Nat} {c : Word} {k : Int} {s : State} {x : FaultCause}
    (h : packetAccess n c k s = .raised x) : c ≠ s.params.ctx ∧ x = .memoryAccessFault c n .read := by
  unfold packetAccess at h
  split at h
  · rename_i hc; cases h; exact ⟨hc, rfl⟩
  · split at h <;> cases h

/-- Everything a local call can do (rule R315). -/
theorem callLocal_done {d : BitVec 32} {s t : State} (h : callLocal d s = .done () t) :
    s.frames.length + 1 < s.params.maxCallDepth ∧ t = s.enterCall d := by
  unfold callLocal at h
  split at h
  · cases h
  · cases h; exact ⟨by omega, rfl⟩

/-- Everything a helper call can do (rule R316). -/
theorem callHelper_done {id : BitVec 32} {s t : State} (h : callHelper id s = .done () t) :
    ∃ r, s.params.helpers.lookup id = some r ∧
      t = (drawHelper s).2.afterHelper (outcomeOf r (drawHelper s).1 s.regs.args s.byteAt) := by
  unfold callHelper at h
  split at h
  · rename_i r hm; cases h; exact ⟨r, hm, rfl⟩
  · cases h

/-- Everything `exit` can do when it goes through (rule R317). -/
theorem exitOrReturn_done {s t : State} (h : exitOrReturn s = .done () t) :
    ∃ v s1, readReg .r0 s = .done v s1 ∧
      ((s.frames = [] ∧ t = s1.exitWith v) ∨ ∃ f, s.frames.getLast? = some f ∧ t = s1.returnTo f) := by
  obtain ⟨v, s1, hr, h⟩ := Res.bind_eq_done.mp h
  refine ⟨v, s1, hr, ?_⟩
  have hf : s1.frames = s.frames := by rw [readReg_state hr]; rfl
  rw [hf] at h
  split at h
  · rename_i hl; cases h; exact .inl ⟨by simpa using hl, rfl⟩
  · rename_i f hl; cases h; exact .inr ⟨f, hl, rfl⟩

end Sys2Proof.Machine
end

