-- ==== Sys2Proof/Laws/Env.lean ====
section
/-! SUPPORT. The laws of ENV moves: what a move leaves, and that it keeps the canonical form of memory. -/

namespace Sys2Proof.Machine

/-! ### Moves -/

/-- The byte that listed writes leave at an address: the last one of them, else the byte that was listed. -/
theorem Memory.get_setCells (cs : List Host.Cell) (m : Memory) (a : Nat) :
    (m.setCells cs).get a = (lastWrite cs a).or (m.get a) := by
  induction cs generalizing m with
  | nil => rfl
  | cons c cs ih =>
    rw [Memory.setCells, ih]
    by_cases h : c.1 = a
    · subst h
      simp only [lastWrite, List.filter_cons, beq_self_eq_true, if_true, Memory.get_set_same, List.getLast?_cons]
      cases (cs.filter fun d => d.1 == c.1).getLast? <;> rfl
    · rw [Memory.get_set_other _ _ (Ne.symm h)]
      simp [lastWrite, h]

/-- Writes at addresses that are not kept write nothing; at an address that is kept, all count. -/
theorem lastWrite_filter (cs : List Host.Cell) (p : Nat → Bool) (a : Nat) :
    lastWrite (cs.filter fun c => p c.1) a = if p a = true then lastWrite cs a else none := by
  simp only [lastWrite, List.filter_filter]
  have : (cs.filter fun c => (c.1 == a && p c.1)) = if p a = true then cs.filter fun c => c.1 == a else [] := by
    split
    · rename_i h
      refine List.filter_congr fun c _ => ?_
      by_cases hc : c.1 = a
      · rw [hc, h, Bool.and_true]
      · simp [hc]
    · rename_i h
      refine List.filter_eq_nil_iff.mpr fun c _ => ?_
      by_cases hc : c.1 = a
      · simp [hc, h]
      · simp [hc]
  rw [this]; split <;> rfl

/-- Memory after writes that were filtered by their address. -/
theorem State.byteAt_setCells (s : State) (p : Nat → Bool) (cs : List Host.Cell) :
    State.byteAt { s with mem := s.mem.setCells (cs.filter fun c => p c.1) } = afterWrites p cs s.byteAt := by
  funext a
  simp only [State.byteAt, afterWrites, Memory.get_setCells, lastWrite_filter]
  split
  · cases lastWrite cs a <;> rfl
  · rfl

/-- Memory after one move of ENV (rule R68). -/
theorem State.byteAt_envMove (s : State) (ws : List Word) :
    (s.envMove ws).byteAt = afterWrites (isShared s.params) (envCells s.params.env ws s.byteAt) s.byteAt :=
  s.byteAt_setCells _ _

/-- One move of ENV is in the relation (rules R7, R68). -/
theorem State.envMove_relates (s : State) (ws : List Word) : EnvRelates s.params s.byteAt (s.envMove ws).byteAt :=
  ⟨ws, s.byteAt_envMove ws⟩

/-- Memory after a helper call (rule R316). -/
theorem State.byteAt_afterHelper (s : State) (o : HelperOutcome) :
    (s.afterHelper o).byteAt = afterWrites (isMapped s.params) o.writes s.byteAt :=
  s.byteAt_setCells _ _

/-- The default ENV, the identity, changes nothing (rules R7, R68). -/
theorem State.envStep_quiet {s : State} (h : s.params.env = .identity) : s.envStep = s := by
  simp [State.envStep, h]

/-- What holds of memory and is kept by every move of ENV holds after ENV has acted. -/
theorem State.envStep_induct {P : State → Prop} (hd : ∀ s, P s → P (drawEnv s).2)
    (hm : ∀ s ws, P s → P (s.envMove ws)) (s : State) (h : P s) : P s.envStep := by
  have hf : ∀ (ds : List (List Word)) (s : State), P s → P (ds.foldl State.envMove s) := by
    intro ds
    induction ds with
    | nil => exact fun s h => h
    | cons ws ds ih => exact fun s h => ih _ (hm s ws h)
  unfold State.envStep
  split
  · exact h
  · exact hf _ _ (hd s h)

/-- ENV moves keep the canonical form of memory (rule R35). -/
theorem State.envStep_wf (s : State) (h : s.mem.wf = true) : s.envStep.mem.wf = true :=
  s.envStep_induct (P := fun s => s.mem.wf = true) (fun s h => by rwa [drawEnv_mem])
    (fun _ _ h => Memory.wf_setCells _ _ h) h

/-- A shared address is mapped (rules R51, R68). -/
theorem isMapped_of_isShared {p : Params} {a : Nat} (h : isShared p a = true) : isMapped p a = true := by
  simp only [isShared, isMapped, Bool.and_eq_true, decide_eq_true_eq, List.any_eq_true] at *
  obtain ⟨h, r, hr, hc, -⟩ := h
  exact ⟨h, r, hr, hc⟩

/-- ENV moves list only mapped addresses (rules R51, R68). -/
theorem State.envStep_mapped (s : State) (h : ∀ c ∈ s.mem, isMapped s.params c.1 = true) :
    ∀ c ∈ s.envStep.mem, isMapped s.params c.1 = true := by
  rw [← s.envStep_params]
  refine s.envStep_induct (P := fun s => ∀ c ∈ s.mem, isMapped s.params c.1 = true)
    (fun s h => by rwa [drawEnv_mem, drawEnv_params]) (fun s ws h => ?_) h
  refine Memory.forall_setCells (P := fun a => isMapped s.params a = true) _ _ h fun c hc => ?_
  exact isMapped_of_isShared (List.mem_filter.mp hc).2

end Sys2Proof.Machine
end

