-- ==== Sys2Proof/Laws/Access.lean ====
section
/-! SUPPORT. The checks and the values of data accesses in the terms of the statements: `InRegion`, `CanAccess`, `memNat`
and the bytes of a number. -/

namespace Sys2Proof.Machine

/-- The check of region and permission is `InRegion` (rules R51, R57, R58). -/
theorem accessible_iff {p : Params} {a n : Nat} {k : AccessKind} :
    accessible p.regions a n k = true ↔ InRegion p a n k := by
  cases k <;> simp [accessible, InRegion, regionCovers, regionPermits, and_assoc]

/-- The check of a split access is that of each of its bytes (rule R59). -/
theorem accessibleBytes_iff {p : Params} {a n : Nat} {k : AccessKind} :
    accessibleBytes p.regions a k n = true ↔ ∀ i < n, InRegion p (a + i) 1 k := by
  induction n with
  | zero => simp [accessibleBytes]
  | succ n ih =>
    simp only [accessibleBytes, Bool.and_eq_true, ih, accessible_iff, Nat.lt_succ_iff_lt_or_eq]
    constructor
    · rintro ⟨h, h'⟩ i (hi | rfl)
      · exact h i hi
      · exact h'
    · exact fun h => ⟨fun i hi => h i (.inl hi), h n (.inr rfl)⟩

/-- The checks pass exactly when the access may be performed (rules R56 to R59). -/
theorem checkAccess_eq_none_iff {p : Params} {ea : Word} {n : Nat} {k : AccessKind} :
    checkAccess p ea n k = none ↔ CanAccess p ea.toNat n k := by
  constructor
  · intro h
    obtain ⟨h1, h2⟩ | ⟨h1, h2, h3, h4⟩ := checkAccess_none h
    · exact .inl ⟨h1, accessible_iff.mp h2⟩
    · exact .inr ⟨h1, h2, h3, accessibleBytes_iff.mp h4⟩
  · unfold checkAccess
    rintro (⟨h1, h2⟩ | ⟨h1, h2, h3, h4⟩)
    · simp [h1, accessible_iff.mpr h2]
    · simp [h1, h2, h3, accessibleBytes_iff.mpr h4]

/-- A byte that an access may touch is mapped (rules R35, R51). -/
theorem isMapped_of_canAccess {p : Params} {a n i : Nat} {k : AccessKind} (h : CanAccess p a n k) (hi : i < n) :
    isMapped p (a + i) = true := by
  simp only [isMapped, regionCovers, Bool.and_eq_true, decide_eq_true_eq, List.any_eq_true]
  obtain ⟨-, ha, r, hr, h1, h2, -⟩ | ⟨-, -, -, h⟩ := h
  · exact ⟨by omega, r, hr, by omega, by omega⟩
  · obtain ⟨ha, r, hr, h1, h2, -⟩ := h i hi
    exact ⟨by omega, r, hr, by omega, by omega⟩

/-- The number that bytes spell, as a sum. -/
theorem littleValue_eq_sum (bs : List Byte) :
    littleValue bs = ((List.range bs.length).map fun i => (bs.getD i 0).toNat * 256 ^ i).sum := by
  induction bs with
  | nil => rfl
  | cons b bs ih =>
    simp only [littleValue, List.length_cons, List.range_succ_eq_map, List.map_cons, List.sum_cons, List.map_map, ih,
      List.getD_cons_zero, pow_zero, mul_one]
    congr 1
    rw [← List.sum_map_mul_left]
    congr 1
    refine List.map_congr_left fun i _ => ?_
    simp [pow_succ]; ring

/-- The byte number i of a number (rule R60). -/
theorem getElem_littleBytes (n v i : Nat) (h : i < (littleBytes n v).length) :
    (littleBytes n v)[i] = BitVec.ofNat 8 (v / 256 ^ i) := by
  induction n generalizing v i with
  | zero => simp at h
  | succ n ih =>
    cases i with
    | zero => simp [littleBytes]
    | succ i =>
      simp only [littleBytes, List.getElem_cons_succ]
      rw [ih, Nat.pow_succ', Nat.div_div_eq_div_mul]

/-- The value in memory is the sum `memNat` over its bytes (rule R60). -/
theorem State.valueAt_eq (s : State) (a n : Nat) : s.valueAt a n = BitVec.ofNat (8 * n) (memNat s a n) := by
  unfold State.valueAt
  rw [littleValue_eq_sum, memNat, length_inOrder, State.length_bytesAt]
  congr 2
  refine List.map_congr_left fun i hi => ?_
  simp only [List.mem_range] at hi
  congr 2
  cases s.params.endian <;> simp only [inOrder, byteAddress]
  · rw [List.getD_eq_getElem _ _ (by simpa using hi), State.getElem_bytesAt]
  · rw [List.getD_eq_getElem _ _ (by simpa using hi), List.getElem_reverse, State.getElem_bytesAt]
    simp

/-- A value read is below 256^n. -/
theorem memNat_lt (s : State) (a n : Nat) : memNat s a n < 2 ^ (8 * n) := by
  have h : ∀ m (f : Nat → Byte), ((List.range m).map fun i => (f i).toNat * 256 ^ i).sum < 256 ^ m := by
    intro m f
    induction m with
    | zero => simp
    | succ m ih =>
      have := (f m).isLt
      rw [List.range_succ, List.map_append, List.sum_append, List.map_singleton, List.sum_singleton, pow_succ]
      nlinarith [Nat.mul_le_mul_right (256 ^ m) (show (f m).toNat ≤ 255 by omega)]
  rw [show 2 ^ (8 * n) = 256 ^ n by rw [pow_mul]; norm_num]
  exact h n _

end Sys2Proof.Machine
end

