-- ==== Sys2Proof/Laws/Decode.lean ====
section
/-! SUPPORT. The laws of slots, fields and register numbers. -/

namespace Sys2Proof

theorem extract_append_low {n m : Nat} (x : BitVec n) (y : BitVec m) : (x ++ y).extractLsb' 0 m = y := by
  apply BitVec.eq_of_getLsbD_eq
  intro i hi
  simp [BitVec.getLsbD_append, hi]

theorem extract_append_high {n m : Nat} (x : BitVec n) (y : BitVec m) : (x ++ y).extractLsb' m n = x := by
  apply BitVec.eq_of_getLsbD_eq
  intro i hi
  simp [BitVec.getLsbD_append, hi]

/-- Two neighbouring slices, put together, are the slice over both. -/
theorem append_extract {w n m : Nat} (x : BitVec w) (k : Nat) :
    x.extractLsb' (k + m) n ++ x.extractLsb' k m = x.extractLsb' k (n + m) := by
  apply BitVec.eq_of_getLsbD_eq
  intro i hi
  rw [BitVec.getLsbD_append]
  by_cases h : i < m
  · simp [h, hi]
  · simp [h, hi, show i - m < n by omega, show k + m + (i - m) = k + i by omega]

theorem extract_all {w : Nat} (x : BitVec w) : x.extractLsb' 0 w = x := by
  apply BitVec.eq_of_getLsbD_eq
  intro i hi
  simp [hi]

/-- A register is the register of its number (rule R115). -/
@[simp] theorem Reg.ofNum_num (r : Reg) : Reg.ofNum r.num = some r := by cases r <;> rfl

/-- A number that names a register is the register's (rule R115). -/
theorem Reg.num_of_ofNum {n : BitVec 4} {r : Reg} : Reg.ofNum n = some r → r.num = n := by
  revert n r; decide

theorem concat2 (x : BitVec 16) : x.extractLsb' 8 8 ++ x.extractLsb' 0 8 = x :=
  (append_extract x 0 (n := 8) (m := 8)).trans (extract_all x)

theorem concat4 (x : BitVec 32) :
    x.extractLsb' 24 8 ++ x.extractLsb' 16 8 ++ x.extractLsb' 8 8 ++ x.extractLsb' 0 8 = x := by
  have h1 : x.extractLsb' 24 8 ++ x.extractLsb' 16 8 = x.extractLsb' 16 16 := append_extract x 16
  have h2 : x.extractLsb' 16 16 ++ x.extractLsb' 8 8 = x.extractLsb' 8 24 := append_extract x 8
  have h3 : x.extractLsb' 8 24 ++ x.extractLsb' 0 8 = x.extractLsb' 0 32 := append_extract x 0
  rw [h1, h2, h3, extract_all]

theorem split4 (a b c d : BitVec 8) :
    (a ++ b ++ c ++ d).extractLsb' 0 8 = d ∧ (a ++ b ++ c ++ d).extractLsb' 8 8 = c ∧
    (a ++ b ++ c ++ d).extractLsb' 16 8 = b ∧ (a ++ b ++ c ++ d).extractLsb' 24 8 = a := by
  refine ⟨extract_append_low _ _, ?_, ?_, ?_⟩ <;>
    (apply BitVec.eq_of_getLsbD_eq; intro i hi
     simp only [BitVec.getLsbD_extractLsb', BitVec.getLsbD_append, hi, decide_true, Bool.true_and])
  · simp [hi]
  · simp [show ¬ 16 + i < 8 by omega, show ¬ 16 + i - 8 < 8 by omega, show 16 + i - 8 - 8 = i by omega, hi]
  · simp [show ¬ 24 + i < 8 by omega, show ¬ 24 + i - 8 < 8 by omega, show ¬ 24 + i - 8 - 8 < 8 by omega,
      show 24 + i - 8 - 8 - 8 = i by omega]

/-- The fields of the slot made of given fields (rules R91, R92). -/
@[simp] theorem Fields.fields_slot (f : Fields) (e : Endian) : (f.slot e).fields e = f := by
  obtain ⟨o, d, s, off, imm⟩ := f
  cases e <;> simp only [Fields.slot, Slot.fields, Fields.mk.injEq, true_and]
  · exact ⟨extract_append_low s d, extract_append_high s d, concat2 off, concat4 imm⟩
  · exact ⟨extract_append_high d s, extract_append_low d s, concat2 off, concat4 imm⟩

/-- The slot made of the fields of a slot (rules R91, R92). -/
@[simp] theorem Slot.slot_fields (s : Slot) (e : Endian) : (s.fields e).slot e = s := by
  obtain ⟨b0, b1, b2, b3, b4, b5, b6, b7⟩ := s
  have h1 : b1.extractLsb' 4 4 ++ b1.extractLsb' 0 4 = b1 :=
    (append_extract b1 0 (n := 4) (m := 4)).trans (extract_all b1)
  cases e <;> simp only [Fields.slot, Slot.fields, Slot.mk.injEq, true_and]
  · exact ⟨h1, extract_append_low b3 b2, extract_append_high b3 b2, (split4 b7 b6 b5 b4).1, (split4 b7 b6 b5 b4).2.1,
      (split4 b7 b6 b5 b4).2.2.1, (split4 b7 b6 b5 b4).2.2.2⟩
  · exact ⟨h1, extract_append_high b2 b3, extract_append_low b2 b3, (split4 b4 b5 b6 b7).2.2.2,
      (split4 b4 b5 b6 b7).2.2.1, (split4 b4 b5 b6 b7).2.1, (split4 b4 b5 b6 b7).1⟩

end Sys2Proof
end

