-- ==== Sys2Proof/Laws/Shapes.lean ====
section
/-! SUPPORT. For each shape an instruction can have (arithmetic, move, jump, load, store, atomic, packet load), once: the
state it leaves when it goes through, and the faults it can raise. -/

namespace Sys2Proof.Machine

/-- The value a read of `r` as the first register answers: what it holds, else the free value of this draw. -/
def State.firstRead (s : State) (r : Reg) : Word :=
  (s.regs.get r).getD (Config.uninitRead s.params.run s.draws)

/-- A register read that goes through, with its value and the count of draws it leaves. -/
theorem readReg_spec {r : Reg} {s t : State} {v : Word} (h : readReg r s = .done v t) :
    v = s.firstRead r ∧ ∃ k, s.draws ≤ k ∧ t = s.withDraws k := by
  obtain ⟨hv, rfl⟩ | ⟨hn, -, rfl, rfl⟩ := readReg_done h
  · exact ⟨by simp [State.firstRead, hv], t.draws, Nat.le_refl _, rfl⟩
  · exact ⟨by simp [State.firstRead, hn], s.draws + 1, Nat.le_succ _, rfl⟩

/-- A register read that goes through answers a value the register may be read as (rule R22). -/
theorem readReg_mayRead {r : Reg} {s t : State} {v : Word} (h : readReg r s = .done v t) : s.mayRead r v := by
  obtain ⟨hv, -⟩ | ⟨hn, hu, -⟩ := readReg_done h
  · exact .inl hv
  · exact .inr ⟨hn, hu⟩

/-- The registers a state holds do not depend on the count of draws, so neither does whether a read faults. -/
theorem readReg_raised_draws {r : Reg} {s : State} {k : Nat} {c : FaultCause}
    (h : readReg r (s.withDraws k) = .raised c) :
    s.regs.get r = none ∧ s.params.uninit = .fault ∧ c = .uninitRegisterRead r :=
  readReg_raised (s := s.withDraws k) h

/-- An instruction that writes rd and goes to the next slot. -/
def Res.WritesReg (s : State) (rd : Reg) (r : Res Unit) : Prop :=
  ∀ t, r = .done () t → ∃ v k, s.draws ≤ k ∧ t = ((s.setReg rd v).advance 1).withDraws k

/-- An instruction that changes pc alone, to the next slot or by a displacement. -/
def Res.Jumps (s : State) (d : Int) (r : Res Unit) : Prop :=
  ∀ t, r = .done () t → ∃ p k, s.draws ≤ k ∧ (p = s.pc + 1 ∨ p = s.pc + 1 + d) ∧ t = (s.goto p).withDraws k

theorem finish_writesReg (rd : Reg) (v : Word) (s : State) : (finish rd v s).WritesReg s rd := by
  rintro t h; cases h; exact ⟨v, s.draws, Nat.le_refl _, rfl⟩

theorem alu64Unary_writesReg (f : Word → Word) (rd : Reg) (s : State) : (alu64Unary f rd s).WritesReg s rd := by
  intro t h
  obtain ⟨a, s1, h1, h2⟩ := Res.bind_eq_done.mp h
  obtain ⟨-, k, hk, rfl⟩ := readReg_spec h1
  cases h2; exact ⟨f a, k, hk, rfl⟩

theorem alu64Imm_writesReg (f : Word → Word → Word) (rd : Reg) (imm : BitVec 32) (s : State) :
    (alu64Imm f rd imm s).WritesReg s rd :=
  alu64Unary_writesReg (fun a => f a (sext64 imm)) rd s

theorem alu32Imm_writesReg (f : BitVec 32 → BitVec 32 → BitVec 32) (rd : Reg) (imm : BitVec 32) (s : State) :
    (alu32Imm f rd imm s).WritesReg s rd :=
  alu64Unary_writesReg (fun a => zext64 (f (low32 a) imm)) rd s

theorem move_writesReg (f : Word → Word) (rd rs : Reg) (s : State) : (move f rd rs s).WritesReg s rd := by
  intro t h
  obtain ⟨a, s1, h1, h2⟩ := Res.bind_eq_done.mp h
  obtain ⟨-, k, hk, rfl⟩ := readReg_spec h1
  cases h2; exact ⟨f a, k, hk, rfl⟩

theorem alu64Reg_writesReg (f : Word → Word → Word) (rd rs : Reg) (s : State) :
    (alu64Reg f rd rs s).WritesReg s rd := by
  intro t h
  obtain ⟨a, s1, h1, h⟩ := Res.bind_eq_done.mp h
  obtain ⟨-, k, hk, rfl⟩ := readReg_spec h1
  obtain ⟨b, s2, h2, h⟩ := Res.bind_eq_done.mp h
  obtain ⟨-, k', hk', rfl⟩ := readReg_spec h2
  cases h; exact ⟨f a b, k', Nat.le_trans hk hk', rfl⟩

theorem alu32Reg_writesReg (f : BitVec 32 → BitVec 32 → BitVec 32) (rd rs : Reg) (s : State) :
    (alu32Reg f rd rs s).WritesReg s rd :=
  alu64Reg_writesReg _ rd rs s

/-- A load: a value in rd, the next slot. The checks passed for a read. -/
def Res.Loads (s : State) (rd rs : Reg) (off : BitVec 16) (n : Nat) (r : Res Unit) : Prop :=
  ∀ t, r = .done () t → ∃ v k, s.draws ≤ k ∧
    checkAccess s.params (effectiveAddress (s.firstRead rs) off) n .read = none ∧
    t = ((s.setReg rd v).advance 1).withDraws k

theorem load_loads (n : Nat) (w : BitVec (8 * n) → Word) (rd rs : Reg) (off : BitVec 16) (s : State) :
    (load n w rd rs off s).Loads s rd rs off n := by
  intro t h
  obtain ⟨b, s1, h1, h⟩ := Res.bind_eq_done.mp h
  obtain ⟨rfl, k, hk, rfl⟩ := readReg_spec h1
  obtain ⟨v, s2, h2, h⟩ := Res.bind_eq_done.mp h
  obtain ⟨hc, -, rfl⟩ := memRead_done h2
  cases h; exact ⟨w v, k, hk, hc, rfl⟩

theorem jumpAlways_jumps {n : Nat} (d : BitVec n) (s : State) : (jumpAlways d s).Jumps s d.toInt := by
  rintro t h; cases h; exact ⟨_, s.draws, Nat.le_refl _, .inr rfl, rfl⟩

theorem branch_jumps (c : Bool) (d : BitVec 16) (s : State) : (branch c d s).Jumps s d.toInt := by
  rintro t h; cases h
  cases c
  · exact ⟨_, s.draws, Nat.le_refl _, .inl rfl, rfl⟩
  · exact ⟨_, s.draws, Nat.le_refl _, .inr rfl, rfl⟩

theorem jump64Imm_jumps (c : Word → Word → Bool) (rd : Reg) (imm : BitVec 32) (d : BitVec 16) (s : State) :
    (jump64Imm c rd imm d s).Jumps s d.toInt := by
  intro t h
  obtain ⟨a, s1, h1, h⟩ := Res.bind_eq_done.mp h
  obtain ⟨-, k, hk, rfl⟩ := readReg_spec h1
  obtain ⟨p, k', hk', hp, rfl⟩ := branch_jumps _ _ _ t h
  exact ⟨p, k', Nat.le_trans hk hk', hp, rfl⟩

theorem jump32Imm_jumps (c : BitVec 32 → BitVec 32 → Bool) (rd : Reg) (imm : BitVec 32) (d : BitVec 16) (s : State) :
    (jump32Imm c rd imm d s).Jumps s d.toInt := by
  intro t h
  obtain ⟨a, s1, h1, h⟩ := Res.bind_eq_done.mp h
  obtain ⟨-, k, hk, rfl⟩ := readReg_spec h1
  obtain ⟨p, k', hk', hp, rfl⟩ := branch_jumps _ _ _ t h
  exact ⟨p, k', Nat.le_trans hk hk', hp, rfl⟩

theorem jump64Reg_jumps (c : Word → Word → Bool) (rd rs : Reg) (d : BitVec 16) (s : State) :
    (jump64Reg c rd rs d s).Jumps s d.toInt := by
  intro t h
  obtain ⟨a, s1, h1, h⟩ := Res.bind_eq_done.mp h
  obtain ⟨-, k, hk, rfl⟩ := readReg_spec h1
  obtain ⟨b, s2, h2, h⟩ := Res.bind_eq_done.mp h
  obtain ⟨-, k', hk', rfl⟩ := readReg_spec h2
  obtain ⟨p, k'', hk'', hp, rfl⟩ := branch_jumps _ _ _ t h
  exact ⟨p, k'', Nat.le_trans hk (Nat.le_trans hk' hk''), hp, rfl⟩

theorem jump32Reg_jumps (c : BitVec 32 → BitVec 32 → Bool) (rd rs : Reg) (d : BitVec 16) (s : State) :
    (jump32Reg c rd rs d s).Jumps s d.toInt :=
  jump64Reg_jumps (fun a b => c (low32 a) (low32 b)) rd rs d s

/-- A state with its registers replaced. -/
def State.setRegs (s : State) (g : RegFile) : State := { s with regs := g }

/-- An instruction that stores n bytes at the address of base and offset, writes at most the register `dest`, and goes to
the next slot. The checks passed for the kind of access. -/
def Res.Stores (s : State) (base : Reg) (off : BitVec 16) (n : Nat) (kind : AccessKind) (dest : Option Reg)
    (r : Res Unit) : Prop :=
  ∀ t, r = .done () t → ∃ (w : BitVec (8 * n)) (v : Word) (k : Nat), s.draws ≤ k ∧
    checkAccess s.params (effectiveAddress (s.firstRead base) off) n kind = none ∧
    t = (((s.storeAt (effectiveAddress (s.firstRead base) off).toNat n w).setRegs
      ((dest.map fun d => s.regs.set d v).getD s.regs)).advance 1).withDraws k

theorem storeReg_stores (n : Nat) (rd rs : Reg) (off : BitVec 16) (s : State) :
    (storeReg n rd rs off s).Stores s rd off n .write none := by
  intro t h
  obtain ⟨b, s1, h1, h⟩ := Res.bind_eq_done.mp h
  obtain ⟨rfl, k, hk, rfl⟩ := readReg_spec h1
  obtain ⟨v, s2, h2, h⟩ := Res.bind_eq_done.mp h
  obtain ⟨-, k', hk', rfl⟩ := readReg_spec h2
  obtain ⟨_, s3, h3, h⟩ := Res.bind_eq_done.mp h
  obtain ⟨hc, rfl⟩ := memWrite_done h3
  cases h
  refine ⟨v.setWidth (8 * n), v, k', Nat.le_trans hk hk', hc, rfl⟩

theorem storeImm_stores (n : Nat) (rd : Reg) (off : BitVec 16) (imm : BitVec 32) (s : State) :
    (storeImm n rd off imm s).Stores s rd off n .write none := by
  intro t h
  obtain ⟨b, s1, h1, h⟩ := Res.bind_eq_done.mp h
  obtain ⟨rfl, k, hk, rfl⟩ := readReg_spec h1
  obtain ⟨_, s3, h3, h⟩ := Res.bind_eq_done.mp h
  obtain ⟨hc, rfl⟩ := memWrite_done h3
  cases h
  refine ⟨(sext64 imm).setWidth (8 * n), 0, k, hk, hc, rfl⟩

theorem atomicUpdate_stores (n : Nat) (f : BitVec (8 * n) → BitVec (8 * n) → BitVec (8 * n)) (rd rs : Reg)
    (off : BitVec 16) (s : State) : (atomicUpdate n f rd rs off s).Stores s rd off n .readwrite none := by
  intro t h
  obtain ⟨b, s1, h1, h⟩ := Res.bind_eq_done.mp h
  obtain ⟨rfl, k, hk, rfl⟩ := readReg_spec h1
  obtain ⟨v, s2, h2, h⟩ := Res.bind_eq_done.mp h
  obtain ⟨-, k', hk', rfl⟩ := readReg_spec h2
  obtain ⟨old, s3, h3, h⟩ := Res.bind_eq_done.mp h
  obtain ⟨hc, -, rfl⟩ := atomicRMW_done h3
  cases h; exact ⟨_, 0, k', Nat.le_trans hk hk', hc, rfl⟩

theorem atomicFetch_stores (n : Nat) (f : BitVec (8 * n) → BitVec (8 * n) → BitVec (8 * n)) (rd rs : Reg)
    (off : BitVec 16) (s : State) : (atomicFetch n f rd rs off s).Stores s rd off n .readwrite (some rs) := by
  intro t h
  obtain ⟨b, s1, h1, h⟩ := Res.bind_eq_done.mp h
  obtain ⟨rfl, k, hk, rfl⟩ := readReg_spec h1
  obtain ⟨v, s2, h2, h⟩ := Res.bind_eq_done.mp h
  obtain ⟨-, k', hk', rfl⟩ := readReg_spec h2
  obtain ⟨old, s3, h3, h⟩ := Res.bind_eq_done.mp h
  obtain ⟨hc, -, rfl⟩ := atomicRMW_done h3
  cases h
  exact ⟨_, zext64 old, k', Nat.le_trans hk hk', hc, rfl⟩

theorem atomicCompare_stores (n : Nat) (rd rs : Reg) (off : BitVec 16) (s : State) :
    (atomicCompare n rd rs off s).Stores s rd off n .readwrite (some .r0) := by
  intro t h
  obtain ⟨b, s1, h1, h⟩ := Res.bind_eq_done.mp h
  obtain ⟨rfl, k, hk, rfl⟩ := readReg_spec h1
  obtain ⟨v, s2, h2, h⟩ := Res.bind_eq_done.mp h
  obtain ⟨-, k', hk', rfl⟩ := readReg_spec h2
  obtain ⟨e, s3, h3, h⟩ := Res.bind_eq_done.mp h
  obtain ⟨-, k'', hk'', rfl⟩ := readReg_spec h3
  obtain ⟨old, s4, h4, h⟩ := Res.bind_eq_done.mp h
  obtain ⟨hc, -, rfl⟩ := atomicRMW_done h4
  cases h
  exact ⟨_, zext64 old, k'', Nat.le_trans hk (Nat.le_trans hk' hk''), hc, rfl⟩

/-- A packet load of n bytes at an index that satisfies `idx`: the end of the run, when the index lies outside the packet
and r6 is `CTX`, or a value in r0 and the next slot (rule R245). -/
def Res.LoadsPacket (s : State) (n : Nat) (idx : Int → Prop) (r : Res Unit) : Prop :=
  ∀ t, r = .done () t → ∃ k, s.draws ≤ k ∧
    ((∃ j, s.mayRead .r6 s.params.ctx ∧ idx j ∧ (j < 0 ∨ (s.params.packet.length : Int) < j + n) ∧
       t = (s.exitWith 0).withDraws k) ∨
     ∃ v, t = ((s.packetLoaded v).advance 1).withDraws k)

theorem packetAbsolute_loadsPacket (n : Nat) (imm : BitVec 32) (s : State) :
    (packetAbsolute n imm s).LoadsPacket s n (· = imm.toInt) := by
  intro t h
  obtain ⟨c, s1, h1, h⟩ := Res.bind_eq_done.mp h
  have h6 := readReg_mayRead h1
  obtain ⟨-, k, hk, rfl⟩ := readReg_spec h1
  obtain ⟨rfl, ⟨ho, rfl⟩ | ⟨-, rfl⟩⟩ := packetAccess_done h
  · exact ⟨k, hk, .inl ⟨_, h6, rfl, ho, rfl⟩⟩
  · exact ⟨k, hk, .inr ⟨_, rfl⟩⟩

/-- The index of an indirect load as an exact sum, narrowed to 32 bits (rule R245 (2)). -/
theorem indirectIndex_eq (x : Word) (imm : BitVec 32) :
    indirectIndex x imm = (BitVec.ofInt 32 (x.toInt + imm.toInt)).toInt := by
  have hx : low32 x = BitVec.ofInt 32 x.toInt := by
    apply BitVec.eq_of_toNat_eq
    simp [low32, BitVec.toInt_eq_toNat_bmod, Int.bmod]
    omega
  have hi : low32 (sext64 imm) = imm := by
    apply BitVec.eq_of_getLsbD_eq
    intro j hj
    rw [low32, sext64, BitVec.getLsbD_setWidth, BitVec.getLsbD_signExtend]
    simp [hj, show j < 64 by omega]
  rw [indirectIndex, BitVec.ofInt_add, BitVec.ofInt_toInt, ← hx]
  congr 1
  rw [← congrArg (low32 x + ·) hi]
  simp [low32, BitVec.setWidth_add]

theorem packetIndirect_loadsPacket (n : Nat) (rs : Reg) (imm : BitVec 32) (s : State) :
    (packetIndirect n rs imm s).LoadsPacket s n
      (fun j => ∃ x, s.mayRead rs x ∧ j = (BitVec.ofInt 32 (x.toInt + imm.toInt)).toInt) := by
  intro t h
  obtain ⟨c, s1, h1, h⟩ := Res.bind_eq_done.mp h
  have h6 := readReg_mayRead h1
  obtain ⟨-, k, hk, rfl⟩ := readReg_spec h1
  obtain ⟨x, s2, h2, h⟩ := Res.bind_eq_done.mp h
  have hx : (s.withDraws k).mayRead rs x := readReg_mayRead h2
  obtain ⟨-, k', hk', rfl⟩ := readReg_spec h2
  obtain ⟨rfl, ⟨ho, rfl⟩ | ⟨-, rfl⟩⟩ := packetAccess_done h
  · exact ⟨k', Nat.le_trans hk hk', .inl ⟨_, h6, ⟨x, hx, indirectIndex_eq x imm⟩, ho, rfl⟩⟩
  · exact ⟨k', Nat.le_trans hk hk', .inr ⟨_, rfl⟩⟩

/-! ### Faults -/

/-- The faults that reading registers can raise. -/
def uninitFault (s : State) (rs : List Reg) (c : FaultCause) : Prop :=
  ∃ r ∈ rs, s.regs.get r = none ∧ s.params.uninit = .fault ∧ c = .uninitRegisterRead r

theorem finish_raised {rd : Reg} {v : Word} {s : State} {c : FaultCause} : finish rd v s ≠ .raised c := nofun

theorem branch_raised {b : Bool} {d : BitVec 16} {s : State} {c : FaultCause} : branch b d s ≠ .raised c := nofun

/-- An instruction that reads one register and then cannot fault. -/
theorem readOne_raised {r : Reg} {s : State} {c : FaultCause} {k : Word → State → Res Unit}
    (hk : ∀ a s, k a s ≠ .raised c) (h : (readReg r s).bind k = .raised c) : uninitFault s [r] c := by
  obtain h | ⟨a, s1, -, h⟩ := Res.bind_eq_raised.mp h
  · exact ⟨r, by simp, readReg_raised h⟩
  · exact absurd h (hk a s1)

/-- An instruction that reads two registers and then cannot fault. -/
theorem readTwo_raised {r q : Reg} {s : State} {c : FaultCause} {k : Word → Word → State → Res Unit}
    (hk : ∀ a b s, k a b s ≠ .raised c)
    (h : ((readReg r s).bind fun a s => (readReg q s).bind fun b s => k a b s) = .raised c) :
    uninitFault s [r, q] c := by
  obtain h | ⟨a, s1, h1, h⟩ := Res.bind_eq_raised.mp h
  · exact ⟨r, by simp, readReg_raised h⟩
  · obtain ⟨-, n, -, rfl⟩ := readReg_spec h1
    obtain h | ⟨b, s2, -, h⟩ := Res.bind_eq_raised.mp h
    · exact ⟨q, by simp, readReg_raised_draws h⟩
    · exact absurd h (hk a b s2)

/-- The faults an access instruction can raise: a missing register, or what the checks say of its own address. -/
def accessFault (s : State) (rs : List Reg) (base : Reg) (off : BitVec 16) (n : Nat) (kind : AccessKind)
    (c : FaultCause) : Prop :=
  uninitFault s rs c ∨ checkAccess s.params (effectiveAddress (s.firstRead base) off) n kind = some c

theorem load_raised {n : Nat} {w : BitVec (8 * n) → Word} {rd rs : Reg} {off : BitVec 16} {s : State} {c : FaultCause}
    (h : load n w rd rs off s = .raised c) : accessFault s [rs] rs off n .read c := by
  obtain h | ⟨b, s1, h1, h⟩ := Res.bind_eq_raised.mp h
  · exact .inl ⟨rs, by simp, readReg_raised h⟩
  · obtain ⟨rfl, k, -, rfl⟩ := readReg_spec h1
    obtain h | ⟨v, s2, -, h⟩ := Res.bind_eq_raised.mp h
    · exact .inr (by have hc := memRead_raised h; exact hc)
    · cases h

theorem storeReg_raised {n : Nat} {rd rs : Reg} {off : BitVec 16} {s : State} {c : FaultCause}
    (h : storeReg n rd rs off s = .raised c) : accessFault s [rd, rs] rd off n .write c := by
  obtain h | ⟨b, s1, h1, h⟩ := Res.bind_eq_raised.mp h
  · exact .inl ⟨rd, by simp, readReg_raised h⟩
  · obtain ⟨rfl, k, -, rfl⟩ := readReg_spec h1
    obtain h | ⟨v, s2, h2, h⟩ := Res.bind_eq_raised.mp h
    · exact .inl ⟨rs, by simp, readReg_raised_draws h⟩
    · obtain ⟨-, k', -, rfl⟩ := readReg_spec h2
      obtain h | ⟨-, s3, -, h⟩ := Res.bind_eq_raised.mp h
      · exact .inr (by have hc := memWrite_raised h; exact hc)
      · cases h

theorem storeImm_raised {n : Nat} {rd : Reg} {off : BitVec 16} {imm : BitVec 32} {s : State} {c : FaultCause}
    (h : storeImm n rd off imm s = .raised c) : accessFault s [rd] rd off n .write c := by
  obtain h | ⟨b, s1, h1, h⟩ := Res.bind_eq_raised.mp h
  · exact .inl ⟨rd, by simp, readReg_raised h⟩
  · obtain ⟨rfl, k, -, rfl⟩ := readReg_spec h1
    obtain h | ⟨-, s3, -, h⟩ := Res.bind_eq_raised.mp h
    · exact .inr (by have hc := memWrite_raised h; exact hc)
    · cases h

/-- An atomic on registers rd and rs, whatever it does with the old value. -/
theorem atomicTwo_raised {n : Nat} {g : Word → BitVec (8 * n) → BitVec (8 * n)} {fin : BitVec (8 * n) → State → Res Unit}
    {rd rs : Reg} {off : BitVec 16} {s : State} {c : FaultCause} (hf : ∀ o s, fin o s ≠ .raised c)
    (h : ((readReg rd s).bind fun b s => (readReg rs s).bind fun v s =>
      (atomicRMW (effectiveAddress b off) n (g v) s).bind fun old s => fin old s) = .raised c) :
    accessFault s [rd, rs] rd off n .readwrite c := by
  obtain h | ⟨b, s1, h1, h⟩ := Res.bind_eq_raised.mp h
  · exact .inl ⟨rd, by simp, readReg_raised h⟩
  · obtain ⟨rfl, k, -, rfl⟩ := readReg_spec h1
    obtain h | ⟨v, s2, h2, h⟩ := Res.bind_eq_raised.mp h
    · exact .inl ⟨rs, by simp, readReg_raised_draws h⟩
    · obtain ⟨-, k', -, rfl⟩ := readReg_spec h2
      obtain h | ⟨o, s3, -, h⟩ := Res.bind_eq_raised.mp h
      · exact .inr (by have hc := atomicRMW_raised h; exact hc)
      · exact absurd h (hf o s3)

theorem atomicUpdate_raised {n : Nat} {f : BitVec (8 * n) → BitVec (8 * n) → BitVec (8 * n)} {rd rs : Reg}
    {off : BitVec 16} {s : State} {c : FaultCause} (h : atomicUpdate n f rd rs off s = .raised c) :
    accessFault s [rd, rs] rd off n .readwrite c :=
  atomicTwo_raised (g := fun v m => f m (v.setWidth (8 * n))) (fin := fun _ s => .done () (s.advance 1))
    (fun _ _ h => by cases h) h

theorem atomicFetch_raised {n : Nat} {f : BitVec (8 * n) → BitVec (8 * n) → BitVec (8 * n)} {rd rs : Reg}
    {off : BitVec 16} {s : State} {c : FaultCause} (h : atomicFetch n f rd rs off s = .raised c) :
    accessFault s [rd, rs] rd off n .readwrite c :=
  atomicTwo_raised (g := fun v m => f m (v.setWidth (8 * n))) (fin := fun old s => finish rs (zext64 old) s)
    (fun _ _ h => by cases h) h

theorem atomicCompare_raised {n : Nat} {rd rs : Reg} {off : BitVec 16} {s : State} {c : FaultCause}
    (h : atomicCompare n rd rs off s = .raised c) : accessFault s [rd, rs, .r0] rd off n .readwrite c := by
  obtain h | ⟨b, s1, h1, h⟩ := Res.bind_eq_raised.mp h
  · exact .inl ⟨rd, by simp, readReg_raised h⟩
  · obtain ⟨rfl, k, -, rfl⟩ := readReg_spec h1
    obtain h | ⟨v, s2, h2, h⟩ := Res.bind_eq_raised.mp h
    · exact .inl ⟨rs, by simp, readReg_raised_draws h⟩
    · obtain ⟨-, k', -, rfl⟩ := readReg_spec h2
      obtain h | ⟨e, s3, h3, h⟩ := Res.bind_eq_raised.mp h
      · exact .inl ⟨.r0, by simp, readReg_raised_draws h⟩
      · obtain ⟨-, k'', -, rfl⟩ := readReg_spec h3
        obtain h | ⟨o, s4, -, h⟩ := Res.bind_eq_raised.mp h
        · exact .inr (by have hc := atomicRMW_raised h; exact hc)
        · cases h

/-- The faults a packet load can raise: a missing register, or an r6 that is not `CTX` (rule R245 (1)). -/
def packetFault (s : State) (rs : List Reg) (n : Nat) (c : FaultCause) : Prop :=
  uninitFault s rs c ∨
    (s.firstRead .r6 ≠ s.params.ctx ∧ c = .memoryAccessFault (s.firstRead .r6) n .read ∧
      s.mayRead .r6 (s.firstRead .r6))

theorem packetAbsolute_raised {n : Nat} {imm : BitVec 32} {s : State} {c : FaultCause}
    (h : packetAbsolute n imm s = .raised c) : packetFault s [.r6] n c := by
  obtain h | ⟨x, s1, h1, h⟩ := Res.bind_eq_raised.mp h
  · exact .inl ⟨.r6, by simp, readReg_raised h⟩
  · have h6 := readReg_mayRead h1
    obtain ⟨rfl, k, -, rfl⟩ := readReg_spec h1
    obtain ⟨hc, rfl⟩ := packetAccess_raised h
    exact .inr ⟨hc, rfl, h6⟩

theorem packetIndirect_raised {n : Nat} {rs : Reg} {imm : BitVec 32} {s : State} {c : FaultCause}
    (h : packetIndirect n rs imm s = .raised c) : packetFault s [.r6, rs] n c := by
  obtain h | ⟨x, s1, h1, h⟩ := Res.bind_eq_raised.mp h
  · exact .inl ⟨.r6, by simp, readReg_raised h⟩
  · have h6 := readReg_mayRead h1
    obtain ⟨rfl, k, -, rfl⟩ := readReg_spec h1
    obtain h | ⟨y, s2, h2, h⟩ := Res.bind_eq_raised.mp h
    · exact .inl ⟨rs, by simp, readReg_raised_draws h⟩
    · obtain ⟨-, k', -, rfl⟩ := readReg_spec h2
      obtain ⟨hc, rfl⟩ := packetAccess_raised h
      exact .inr ⟨hc, rfl, h6⟩

theorem callLocal_raised {d : BitVec 32} {s : State} {c : FaultCause} (h : callLocal d s = .raised c) :
    s.params.maxCallDepth ≤ s.frames.length + 1 ∧ c = .callDepthExceeded (s.frames.length + 1) := by
  unfold callLocal at h
  split at h
  · rename_i hm; cases h; exact ⟨hm, rfl⟩
  · cases h

theorem callHelper_raised {id : BitVec 32} {s : State} {c : FaultCause} (h : callHelper id s = .raised c) :
    s.params.helpers.lookup id = none ∧ c = .unknownHelper id := by
  unfold callHelper at h
  split at h
  · cases h
  · rename_i hm; cases h; exact ⟨hm, rfl⟩

theorem exitOrReturn_raised {s : State} {c : FaultCause} (h : exitOrReturn s = .raised c) : uninitFault s [.r0] c := by
  refine readOne_raised (fun a t ht => ?_) h
  revert ht
  split <;> nofun

end Sys2Proof.Machine
end

