-- ==== Sys2Proof/Laws/Exec.lean ====
section
/-! SUPPORT. What any instruction can do, said once: the state it leaves when it goes through, and the faults it can
raise. -/

namespace Sys2Proof.Machine

/-- The displacement a jump carries, as an integer (rules R112, R290). -/
def jumpDisp : Instr → Option Int
  | .addReg _ _ => none
  | .addImm _ _ => none
  | .subReg _ _ => none
  | .subImm _ _ => none
  | .mulReg _ _ => none
  | .mulImm _ _ => none
  | .divReg _ _ => none
  | .divImm _ _ => none
  | .modReg _ _ => none
  | .modImm _ _ => none
  | .andReg _ _ => none
  | .andImm _ _ => none
  | .orReg _ _ => none
  | .orImm _ _ => none
  | .xorReg _ _ => none
  | .xorImm _ _ => none
  | .lshReg _ _ => none
  | .lshImm _ _ => none
  | .rshReg _ _ => none
  | .rshImm _ _ => none
  | .arshReg _ _ => none
  | .arshImm _ _ => none
  | .neg _ => none
  | .movReg _ _ => none
  | .movImm _ _ => none
  | .movs8 _ _ => none
  | .movs16 _ _ => none
  | .movs32 _ _ => none
  | .add32Reg _ _ => none
  | .add32Imm _ _ => none
  | .sub32Reg _ _ => none
  | .sub32Imm _ _ => none
  | .mul32Reg _ _ => none
  | .mul32Imm _ _ => none
  | .div32Reg _ _ => none
  | .div32Imm _ _ => none
  | .mod32Reg _ _ => none
  | .mod32Imm _ _ => none
  | .and32Reg _ _ => none
  | .and32Imm _ _ => none
  | .or32Reg _ _ => none
  | .or32Imm _ _ => none
  | .xor32Reg _ _ => none
  | .xor32Imm _ _ => none
  | .lsh32Reg _ _ => none
  | .lsh32Imm _ _ => none
  | .rsh32Reg _ _ => none
  | .rsh32Imm _ _ => none
  | .arsh32Reg _ _ => none
  | .arsh32Imm _ _ => none
  | .neg32 _ => none
  | .mov32Reg _ _ => none
  | .mov32Imm _ _ => none
  | .mov32s8 _ _ => none
  | .mov32s16 _ _ => none
  | .mov32s32 _ _ => none
  | .endle16 _ => none
  | .endle32 _ => none
  | .endle64 _ => none
  | .endbe16 _ => none
  | .endbe32 _ => none
  | .endbe64 _ => none
  | .bswap16 _ => none
  | .bswap32 _ => none
  | .bswap64 _ => none
  | .lddw _ _ => none
  | .ldabsw _ => none
  | .ldabsh _ => none
  | .ldabsb _ => none
  | .ldindw _ _ => none
  | .ldindh _ _ => none
  | .ldindb _ _ => none
  | .ldxdw _ _ _ => none
  | .ldxw _ _ _ => none
  | .ldxh _ _ _ => none
  | .ldxb _ _ _ => none
  | .ldxsdw _ _ _ => none
  | .ldxsw _ _ _ => none
  | .ldxsh _ _ _ => none
  | .ldxsb _ _ _ => none
  | .stxdw _ _ _ => none
  | .stxw _ _ _ => none
  | .stxh _ _ _ => none
  | .stxb _ _ _ => none
  | .stdw _ _ _ => none
  | .stw _ _ _ => none
  | .sth _ _ _ => none
  | .stb _ _ _ => none
  | .ja disp => some disp.toInt
  | .jal disp => some disp.toInt
  | .jeqReg _ _ disp => some disp.toInt
  | .jeqImm _ _ disp => some disp.toInt
  | .jgtReg _ _ disp => some disp.toInt
  | .jgtImm _ _ disp => some disp.toInt
  | .jgeReg _ _ disp => some disp.toInt
  | .jgeImm _ _ disp => some disp.toInt
  | .jltReg _ _ disp => some disp.toInt
  | .jltImm _ _ disp => some disp.toInt
  | .jleReg _ _ disp => some disp.toInt
  | .jleImm _ _ disp => some disp.toInt
  | .jsetReg _ _ disp => some disp.toInt
  | .jsetImm _ _ disp => some disp.toInt
  | .jneReg _ _ disp => some disp.toInt
  | .jneImm _ _ disp => some disp.toInt
  | .jsgtReg _ _ disp => some disp.toInt
  | .jsgtImm _ _ disp => some disp.toInt
  | .jsgeReg _ _ disp => some disp.toInt
  | .jsgeImm _ _ disp => some disp.toInt
  | .jsltReg _ _ disp => some disp.toInt
  | .jsltImm _ _ disp => some disp.toInt
  | .jsleReg _ _ disp => some disp.toInt
  | .jsleImm _ _ disp => some disp.toInt
  | .callLocal _ => none
  | .callHelper _ => none
  | .exit => none
  | .jeq32Reg _ _ disp => some disp.toInt
  | .jeq32Imm _ _ disp => some disp.toInt
  | .jgt32Reg _ _ disp => some disp.toInt
  | .jgt32Imm _ _ disp => some disp.toInt
  | .jge32Reg _ _ disp => some disp.toInt
  | .jge32Imm _ _ disp => some disp.toInt
  | .jlt32Reg _ _ disp => some disp.toInt
  | .jlt32Imm _ _ disp => some disp.toInt
  | .jle32Reg _ _ disp => some disp.toInt
  | .jle32Imm _ _ disp => some disp.toInt
  | .jset32Reg _ _ disp => some disp.toInt
  | .jset32Imm _ _ disp => some disp.toInt
  | .jne32Reg _ _ disp => some disp.toInt
  | .jne32Imm _ _ disp => some disp.toInt
  | .jsgt32Reg _ _ disp => some disp.toInt
  | .jsgt32Imm _ _ disp => some disp.toInt
  | .jsge32Reg _ _ disp => some disp.toInt
  | .jsge32Imm _ _ disp => some disp.toInt
  | .jslt32Reg _ _ disp => some disp.toInt
  | .jslt32Imm _ _ disp => some disp.toInt
  | .jsle32Reg _ _ disp => some disp.toInt
  | .jsle32Imm _ _ disp => some disp.toInt
  | .acmp _ _ _ => none
  | .axchg _ _ _ => none
  | .aadd _ _ _ => none
  | .aor _ _ _ => none
  | .aand _ _ _ => none
  | .axor _ _ _ => none
  | .afadd _ _ _ => none
  | .afor _ _ _ => none
  | .afand _ _ _ => none
  | .afxor _ _ _ => none
  | .acmp32 _ _ _ => none
  | .axchg32 _ _ _ => none
  | .aadd32 _ _ _ => none
  | .aor32 _ _ _ => none
  | .aand32 _ _ _ => none
  | .axor32 _ _ _ => none
  | .afadd32 _ _ _ => none
  | .afor32 _ _ _ => none
  | .afand32 _ _ _ => none
  | .afxor32 _ _ _ => none

/-- Every state an instruction can leave when it raises no fault. -/
inductive Effect (i : Instr) (s : State) : State → Prop
  | writes (rd : Reg) (v : Word) (j : Int) (k : Nat) (hw : writtenOperand i = some rd) (hk : s.draws ≤ k)
      (ha : dataAccess i = none) (hd : jumpDisp i = none)
      (hp : packetBytes i = none) (hj : (j = 1 ∧ ∀ d w, i ≠ .lddw d w) ∨ (j = 2 ∧ ∃ d w, i = .lddw d w)) :
      Effect i s (((s.setReg rd v).advance j).withDraws k)
  | loads (rd rs : Reg) (off : BitVec 16) (n : Nat) (v : Word) (k : Nat) (hw : writtenOperand i = some rd)
      (ha : dataAccess i = some (rs, off, n, .read)) (hk : s.draws ≤ k) (hd : jumpDisp i = none)
      (hp : packetBytes i = none) (hl : ∀ d w, i ≠ .lddw d w)
      (hc : checkAccess s.params (effectiveAddress (s.firstRead rs) off) n .read = none) :
      Effect i s (((s.setReg rd v).advance 1).withDraws k)
  | jumps (p d : Int) (k : Nat) (hd : jumpDisp i = some d) (hk : s.draws ≤ k) (hp : p = s.pc + 1 ∨ p = s.pc + 1 + d) :
      Effect i s ((s.goto p).withDraws k)
  | stores (base : Reg) (off : BitVec 16) (n : Nat) (kind : AccessKind) (dest : Option Reg) (w : BitVec (8 * n))
      (v : Word) (k : Nat) (ha : dataAccess i = some (base, off, n, kind)) (hk : s.draws ≤ k) (hkind : kind ≠ .read)
      (hdest : ∀ d ∈ dest, d ∈ mayChange i) (hd : jumpDisp i = none) (hp : packetBytes i = none)
      (hc : checkAccess s.params (effectiveAddress (s.firstRead base) off) n kind = none) :
      Effect i s ((((s.storeAt (effectiveAddress (s.firstRead base) off).toNat n w).setRegs
        ((dest.map fun d => s.regs.set d v).getD s.regs)).advance 1).withDraws k)
  | packetEnd (n k : Nat) (j : Int) (hp : packetBytes i = some n) (hk : s.draws ≤ k) (hc : s.mayRead .r6 s.params.ctx)
      (hx : packetIndex s j i) (ho : j < 0 ∨ (s.params.packet.length : Int) < j + n) :
      Effect i s ((s.exitWith 0).withDraws k)
  | packetLoad (n k : Nat) (v : Word) (hp : packetBytes i = some n) (hk : s.draws ≤ k) :
      Effect i s (((s.packetLoaded v).advance 1).withDraws k)
  | call (d : BitVec 32) (hi : i = .callLocal d) (hc : s.frames.length + 1 < s.params.maxCallDepth) :
      Effect i s (s.enterCall d)
  | helper (id : BitVec 32) (r : HelperRel) (hi : i = .callHelper id) (hm : s.params.helpers.lookup id = some r) :
      Effect i s ((drawHelper s).2.afterHelper (outcomeOf r (drawHelper s).1 s.regs.args s.byteAt))
  | exitEnd (v : Word) (k : Nat) (hi : i = .exit) (hf : s.frames = []) (hk : s.draws ≤ k)
      (hv : s.mayRead .r0 v) :
      Effect i s ((s.exitWith v).withDraws k)
  | exitReturn (f : Frame) (k : Nat) (hi : i = .exit) (hf : s.frames.getLast? = some f) (hk : s.draws ≤ k) :
      Effect i s ((s.withDraws k).returnTo f)

/-- Every fault an instruction can raise once it is decoded (rules R401, R410). -/
inductive Raises (i : Instr) (s : State) : FaultCause → Prop
  | uninit (r : Reg) (hr : r ∈ readOrder i) (hn : s.regs.get r = none) (hu : s.params.uninit = .fault) :
      Raises i s (.uninitRegisterRead r)
  | access (base : Reg) (off : BitVec 16) (n : Nat) (kind : AccessKind) (c : FaultCause)
      (ha : dataAccess i = some (base, off, n, kind))
      (hc : checkAccess s.params (effectiveAddress (s.firstRead base) off) n kind = some c) : Raises i s c
  | packet (n : Nat) (hp : packetBytes i = some n) (hx : s.firstRead .r6 ≠ s.params.ctx)
      (h6 : s.mayRead .r6 (s.firstRead .r6)) :
      Raises i s (.memoryAccessFault (s.firstRead .r6) n .read)
  | depth (d : BitVec 32) (hi : i = .callLocal d) (hc : s.params.maxCallDepth ≤ s.frames.length + 1) :
      Raises i s (.callDepthExceeded (s.frames.length + 1))
  | helper (id : BitVec 32) (hi : i = .callHelper id) (hm : s.params.helpers.lookup id = none) :
      Raises i s (.unknownHelper id)

section
variable {i : Instr} {s t : State} {r : Res Unit} {c : FaultCause}

/-- An instruction whose parts only have the listed effects and faults. -/
def Res.Does (i : Instr) (s : State) (r : Res Unit) : Prop :=
  (∀ t, r = .done () t → Effect i s t) ∧ ∀ c, r = .raised c → Raises i s c

theorem Raises.of_uninit {rs : List Reg} (h : uninitFault s rs c) (hr : readOrder i = rs) : Raises i s c := by
  obtain ⟨q, hq, hn, hu, rfl⟩ := h
  exact .uninit q (hr ▸ hq) hn hu

theorem Raises.of_access {rs : List Reg} {base : Reg} {off : BitVec 16} {n : Nat} {kind : AccessKind}
    (h : accessFault s rs base off n kind c) (hr : readOrder i = rs) (ha : dataAccess i = some (base, off, n, kind)) :
    Raises i s c := by
  obtain h | h := h
  · exact .of_uninit h hr
  · exact .access base off n kind c ha h

theorem Raises.of_packet {rs : List Reg} {n : Nat} (h : packetFault s rs n c) (hr : readOrder i = rs)
    (hp : packetBytes i = some n) : Raises i s c := by
  obtain h | ⟨hx, rfl, h6⟩ := h
  · exact .of_uninit h hr
  · exact .packet n hp hx h6

theorem Res.Does.of_writes {rd : Reg} (h : r.WritesReg s rd) (hw : writtenOperand i = some rd) (ha : dataAccess i = none)
    (hd : jumpDisp i = none) (hp : packetBytes i = none) (hl : ∀ d w, i ≠ .lddw d w)
    (hr : ∀ c, r = .raised c → Raises i s c) : r.Does i s :=
  ⟨fun t ht => by
    obtain ⟨v, k, hk, rfl⟩ := h t ht
    exact .writes rd v 1 k hw hk ha hd hp (.inl ⟨rfl, hl⟩), hr⟩

theorem Res.Does.of_load {rd rs : Reg} {off : BitVec 16} {n : Nat} (h : r.Loads s rd rs off n)
    (hw : writtenOperand i = some rd) (ha : dataAccess i = some (rs, off, n, .read)) (hd : jumpDisp i = none)
    (hp : packetBytes i = none) (hl : ∀ d w, i ≠ .lddw d w) (hr : ∀ c, r = .raised c → Raises i s c) : r.Does i s :=
  ⟨fun t ht => by
    obtain ⟨v, k, hk, hc, rfl⟩ := h t ht
    exact .loads rd rs off n v k hw ha hk hd hp hl hc, hr⟩

theorem Res.Does.of_jumps {d : Int} (h : r.Jumps s d) (hd : jumpDisp i = some d)
    (hr : ∀ c, r = .raised c → Raises i s c) : r.Does i s :=
  ⟨fun t ht => by
    obtain ⟨p, k, hk, hp, rfl⟩ := h t ht
    exact .jumps p d k hd hk hp, hr⟩

theorem Res.Does.of_stores {base : Reg} {off : BitVec 16} {n : Nat} {kind : AccessKind} {dest : Option Reg}
    (h : r.Stores s base off n kind dest) (ha : dataAccess i = some (base, off, n, kind)) (hkind : kind ≠ .read)
    (hdest : ∀ d ∈ dest, d ∈ mayChange i) (hd : jumpDisp i = none) (hp : packetBytes i = none)
    (hr : ∀ c, r = .raised c → Raises i s c) : r.Does i s :=
  ⟨fun t ht => by
    obtain ⟨w, v, k, hk, hc, rfl⟩ := h t ht
    exact .stores base off n kind dest w v k ha hk hkind hdest hd hp hc, hr⟩

theorem Res.Does.of_packet {n : Nat} (h : r.LoadsPacket s n (packetIndex s · i)) (hp : packetBytes i = some n)
    (hr : ∀ c, r = .raised c → Raises i s c) : r.Does i s :=
  ⟨fun t ht => by
    obtain ⟨k, hk, ⟨j, hc, hx, ho, rfl⟩ | ⟨v, rfl⟩⟩ := h t ht
    · exact .packetEnd n k j hp hk hc hx ho
    · exact .packetLoad n k v hp hk, hr⟩

theorem callLocal_does (d : BitVec 32) (s : State) : (callLocal d s).Does (.callLocal d) s :=
  ⟨fun t ht => by obtain ⟨hc, rfl⟩ := callLocal_done ht; exact .call d rfl hc,
   fun c hc => by obtain ⟨h, rfl⟩ := callLocal_raised hc; exact .depth d rfl h⟩

theorem callHelper_does (id : BitVec 32) (s : State) : (callHelper id s).Does (.callHelper id) s :=
  ⟨fun t ht => by obtain ⟨r, hc, rfl⟩ := callHelper_done ht; exact .helper id r rfl hc,
   fun c hc => by obtain ⟨h, rfl⟩ := callHelper_raised hc; exact .helper id rfl h⟩

theorem exitOrReturn_does (s : State) : (exitOrReturn s).Does .exit s := by
  refine ⟨fun t ht => ?_, fun c hc => .of_uninit (exitOrReturn_raised hc) rfl⟩
  obtain ⟨v, s1, hr, ⟨hf, rfl⟩ | ⟨f, hf, rfl⟩⟩ := exitOrReturn_done ht
  · have hv := readReg_mayRead hr
    obtain ⟨-, k, hk, rfl⟩ := readReg_spec hr
    exact .exitEnd v k rfl hf hk hv
  · obtain ⟨-, k, hk, rfl⟩ := readReg_spec hr
    exact .exitReturn f k rfl hf hk

end

/-- Every instruction ends as its meaning comes to, and that has only the listed effects and faults. -/
theorem exec_does (i : Instr) (s : State) : ∃ r : Res Unit, exec i s = commit s r ∧ r.Does i s := by
  cases i
  case addReg rd rs => exact ⟨_, rfl, .of_writes (alu64Reg_writesReg _ _ _ _) rfl rfl rfl rfl nofun (fun c h => .of_uninit (readTwo_raised (fun _ _ _ => finish_raised) h) rfl)⟩
  case addImm rd imm => exact ⟨_, rfl, .of_writes (alu64Imm_writesReg _ _ _ _) rfl rfl rfl rfl nofun (fun c h => .of_uninit (readOne_raised (fun _ _ => finish_raised) h) rfl)⟩
  case subReg rd rs => exact ⟨_, rfl, .of_writes (alu64Reg_writesReg _ _ _ _) rfl rfl rfl rfl nofun (fun c h => .of_uninit (readTwo_raised (fun _ _ _ => finish_raised) h) rfl)⟩
  case subImm rd imm => exact ⟨_, rfl, .of_writes (alu64Imm_writesReg _ _ _ _) rfl rfl rfl rfl nofun (fun c h => .of_uninit (readOne_raised (fun _ _ => finish_raised) h) rfl)⟩
  case mulReg rd rs => exact ⟨_, rfl, .of_writes (alu64Reg_writesReg _ _ _ _) rfl rfl rfl rfl nofun (fun c h => .of_uninit (readTwo_raised (fun _ _ _ => finish_raised) h) rfl)⟩
  case mulImm rd imm => exact ⟨_, rfl, .of_writes (alu64Imm_writesReg _ _ _ _) rfl rfl rfl rfl nofun (fun c h => .of_uninit (readOne_raised (fun _ _ => finish_raised) h) rfl)⟩
  case divReg rd rs => exact ⟨_, rfl, .of_writes (alu64Reg_writesReg _ _ _ _) rfl rfl rfl rfl nofun (fun c h => .of_uninit (readTwo_raised (fun _ _ _ => finish_raised) h) rfl)⟩
  case divImm rd imm => exact ⟨_, rfl, .of_writes (alu64Imm_writesReg _ _ _ _) rfl rfl rfl rfl nofun (fun c h => .of_uninit (readOne_raised (fun _ _ => finish_raised) h) rfl)⟩
  case modReg rd rs => exact ⟨_, rfl, .of_writes (alu64Reg_writesReg _ _ _ _) rfl rfl rfl rfl nofun (fun c h => .of_uninit (readTwo_raised (fun _ _ _ => finish_raised) h) rfl)⟩
  case modImm rd imm => exact ⟨_, rfl, .of_writes (alu64Imm_writesReg _ _ _ _) rfl rfl rfl rfl nofun (fun c h => .of_uninit (readOne_raised (fun _ _ => finish_raised) h) rfl)⟩
  case andReg rd rs => exact ⟨_, rfl, .of_writes (alu64Reg_writesReg _ _ _ _) rfl rfl rfl rfl nofun (fun c h => .of_uninit (readTwo_raised (fun _ _ _ => finish_raised) h) rfl)⟩
  case andImm rd imm => exact ⟨_, rfl, .of_writes (alu64Imm_writesReg _ _ _ _) rfl rfl rfl rfl nofun (fun c h => .of_uninit (readOne_raised (fun _ _ => finish_raised) h) rfl)⟩
  case orReg rd rs => exact ⟨_, rfl, .of_writes (alu64Reg_writesReg _ _ _ _) rfl rfl rfl rfl nofun (fun c h => .of_uninit (readTwo_raised (fun _ _ _ => finish_raised) h) rfl)⟩
  case orImm rd imm => exact ⟨_, rfl, .of_writes (alu64Imm_writesReg _ _ _ _) rfl rfl rfl rfl nofun (fun c h => .of_uninit (readOne_raised (fun _ _ => finish_raised) h) rfl)⟩
  case xorReg rd rs => exact ⟨_, rfl, .of_writes (alu64Reg_writesReg _ _ _ _) rfl rfl rfl rfl nofun (fun c h => .of_uninit (readTwo_raised (fun _ _ _ => finish_raised) h) rfl)⟩
  case xorImm rd imm => exact ⟨_, rfl, .of_writes (alu64Imm_writesReg _ _ _ _) rfl rfl rfl rfl nofun (fun c h => .of_uninit (readOne_raised (fun _ _ => finish_raised) h) rfl)⟩
  case lshReg rd rs => exact ⟨_, rfl, .of_writes (alu64Reg_writesReg _ _ _ _) rfl rfl rfl rfl nofun (fun c h => .of_uninit (readTwo_raised (fun _ _ _ => finish_raised) h) rfl)⟩
  case lshImm rd imm => exact ⟨_, rfl, .of_writes (alu64Imm_writesReg _ _ _ _) rfl rfl rfl rfl nofun (fun c h => .of_uninit (readOne_raised (fun _ _ => finish_raised) h) rfl)⟩
  case rshReg rd rs => exact ⟨_, rfl, .of_writes (alu64Reg_writesReg _ _ _ _) rfl rfl rfl rfl nofun (fun c h => .of_uninit (readTwo_raised (fun _ _ _ => finish_raised) h) rfl)⟩
  case rshImm rd imm => exact ⟨_, rfl, .of_writes (alu64Imm_writesReg _ _ _ _) rfl rfl rfl rfl nofun (fun c h => .of_uninit (readOne_raised (fun _ _ => finish_raised) h) rfl)⟩
  case arshReg rd rs => exact ⟨_, rfl, .of_writes (alu64Reg_writesReg _ _ _ _) rfl rfl rfl rfl nofun (fun c h => .of_uninit (readTwo_raised (fun _ _ _ => finish_raised) h) rfl)⟩
  case arshImm rd imm => exact ⟨_, rfl, .of_writes (alu64Imm_writesReg _ _ _ _) rfl rfl rfl rfl nofun (fun c h => .of_uninit (readOne_raised (fun _ _ => finish_raised) h) rfl)⟩
  case neg rd => exact ⟨_, rfl, .of_writes (alu64Unary_writesReg _ _ _) rfl rfl rfl rfl nofun (fun c h => .of_uninit (readOne_raised (fun _ _ => finish_raised) h) rfl)⟩
  case movReg rd rs => exact ⟨_, rfl, .of_writes (move_writesReg _ _ _ _) rfl rfl rfl rfl nofun (fun c h => .of_uninit (readOne_raised (fun _ _ => finish_raised) h) rfl)⟩
  case movImm rd imm => exact ⟨_, rfl, .of_writes (finish_writesReg _ _ _) rfl rfl rfl rfl nofun (nofun)⟩
  case movs8 rd rs => exact ⟨_, rfl, .of_writes (move_writesReg _ _ _ _) rfl rfl rfl rfl nofun (fun c h => .of_uninit (readOne_raised (fun _ _ => finish_raised) h) rfl)⟩
  case movs16 rd rs => exact ⟨_, rfl, .of_writes (move_writesReg _ _ _ _) rfl rfl rfl rfl nofun (fun c h => .of_uninit (readOne_raised (fun _ _ => finish_raised) h) rfl)⟩
  case movs32 rd rs => exact ⟨_, rfl, .of_writes (move_writesReg _ _ _ _) rfl rfl rfl rfl nofun (fun c h => .of_uninit (readOne_raised (fun _ _ => finish_raised) h) rfl)⟩
  case add32Reg rd rs => exact ⟨_, rfl, .of_writes (alu32Reg_writesReg _ _ _ _) rfl rfl rfl rfl nofun (fun c h => .of_uninit (readTwo_raised (fun _ _ _ => finish_raised) h) rfl)⟩
  case add32Imm rd imm => exact ⟨_, rfl, .of_writes (alu32Imm_writesReg _ _ _ _) rfl rfl rfl rfl nofun (fun c h => .of_uninit (readOne_raised (fun _ _ => finish_raised) h) rfl)⟩
  case sub32Reg rd rs => exact ⟨_, rfl, .of_writes (alu32Reg_writesReg _ _ _ _) rfl rfl rfl rfl nofun (fun c h => .of_uninit (readTwo_raised (fun _ _ _ => finish_raised) h) rfl)⟩
  case sub32Imm rd imm => exact ⟨_, rfl, .of_writes (alu32Imm_writesReg _ _ _ _) rfl rfl rfl rfl nofun (fun c h => .of_uninit (readOne_raised (fun _ _ => finish_raised) h) rfl)⟩
  case mul32Reg rd rs => exact ⟨_, rfl, .of_writes (alu32Reg_writesReg _ _ _ _) rfl rfl rfl rfl nofun (fun c h => .of_uninit (readTwo_raised (fun _ _ _ => finish_raised) h) rfl)⟩
  case mul32Imm rd imm => exact ⟨_, rfl, .of_writes (alu32Imm_writesReg _ _ _ _) rfl rfl rfl rfl nofun (fun c h => .of_uninit (readOne_raised (fun _ _ => finish_raised) h) rfl)⟩
  case div32Reg rd rs => exact ⟨_, rfl, .of_writes (alu32Reg_writesReg _ _ _ _) rfl rfl rfl rfl nofun (fun c h => .of_uninit (readTwo_raised (fun _ _ _ => finish_raised) h) rfl)⟩
  case div32Imm rd imm => exact ⟨_, rfl, .of_writes (alu32Imm_writesReg _ _ _ _) rfl rfl rfl rfl nofun (fun c h => .of_uninit (readOne_raised (fun _ _ => finish_raised) h) rfl)⟩
  case mod32Reg rd rs => exact ⟨_, rfl, .of_writes (alu32Reg_writesReg _ _ _ _) rfl rfl rfl rfl nofun (fun c h => .of_uninit (readTwo_raised (fun _ _ _ => finish_raised) h) rfl)⟩
  case mod32Imm rd imm => exact ⟨_, rfl, .of_writes (alu32Imm_writesReg _ _ _ _) rfl rfl rfl rfl nofun (fun c h => .of_uninit (readOne_raised (fun _ _ => finish_raised) h) rfl)⟩
  case and32Reg rd rs => exact ⟨_, rfl, .of_writes (alu32Reg_writesReg _ _ _ _) rfl rfl rfl rfl nofun (fun c h => .of_uninit (readTwo_raised (fun _ _ _ => finish_raised) h) rfl)⟩
  case and32Imm rd imm => exact ⟨_, rfl, .of_writes (alu32Imm_writesReg _ _ _ _) rfl rfl rfl rfl nofun (fun c h => .of_uninit (readOne_raised (fun _ _ => finish_raised) h) rfl)⟩
  case or32Reg rd rs => exact ⟨_, rfl, .of_writes (alu32Reg_writesReg _ _ _ _) rfl rfl rfl rfl nofun (fun c h => .of_uninit (readTwo_raised (fun _ _ _ => finish_raised) h) rfl)⟩
  case or32Imm rd imm => exact ⟨_, rfl, .of_writes (alu32Imm_writesReg _ _ _ _) rfl rfl rfl rfl nofun (fun c h => .of_uninit (readOne_raised (fun _ _ => finish_raised) h) rfl)⟩
  case xor32Reg rd rs => exact ⟨_, rfl, .of_writes (alu32Reg_writesReg _ _ _ _) rfl rfl rfl rfl nofun (fun c h => .of_uninit (readTwo_raised (fun _ _ _ => finish_raised) h) rfl)⟩
  case xor32Imm rd imm => exact ⟨_, rfl, .of_writes (alu32Imm_writesReg _ _ _ _) rfl rfl rfl rfl nofun (fun c h => .of_uninit (readOne_raised (fun _ _ => finish_raised) h) rfl)⟩
  case lsh32Reg rd rs => exact ⟨_, rfl, .of_writes (alu32Reg_writesReg _ _ _ _) rfl rfl rfl rfl nofun (fun c h => .of_uninit (readTwo_raised (fun _ _ _ => finish_raised) h) rfl)⟩
  case lsh32Imm rd imm => exact ⟨_, rfl, .of_writes (alu32Imm_writesReg _ _ _ _) rfl rfl rfl rfl nofun (fun c h => .of_uninit (readOne_raised (fun _ _ => finish_raised) h) rfl)⟩
  case rsh32Reg rd rs => exact ⟨_, rfl, .of_writes (alu32Reg_writesReg _ _ _ _) rfl rfl rfl rfl nofun (fun c h => .of_uninit (readTwo_raised (fun _ _ _ => finish_raised) h) rfl)⟩
  case rsh32Imm rd imm => exact ⟨_, rfl, .of_writes (alu32Imm_writesReg _ _ _ _) rfl rfl rfl rfl nofun (fun c h => .of_uninit (readOne_raised (fun _ _ => finish_raised) h) rfl)⟩
  case arsh32Reg rd rs => exact ⟨_, rfl, .of_writes (alu32Reg_writesReg _ _ _ _) rfl rfl rfl rfl nofun (fun c h => .of_uninit (readTwo_raised (fun _ _ _ => finish_raised) h) rfl)⟩
  case arsh32Imm rd imm => exact ⟨_, rfl, .of_writes (alu32Imm_writesReg _ _ _ _) rfl rfl rfl rfl nofun (fun c h => .of_uninit (readOne_raised (fun _ _ => finish_raised) h) rfl)⟩
  case neg32 rd => exact ⟨_, rfl, .of_writes (alu64Unary_writesReg _ _ _) rfl rfl rfl rfl nofun (fun c h => .of_uninit (readOne_raised (fun _ _ => finish_raised) h) rfl)⟩
  case mov32Reg rd rs => exact ⟨_, rfl, .of_writes (move_writesReg _ _ _ _) rfl rfl rfl rfl nofun (fun c h => .of_uninit (readOne_raised (fun _ _ => finish_raised) h) rfl)⟩
  case mov32Imm rd imm => exact ⟨_, rfl, .of_writes (finish_writesReg _ _ _) rfl rfl rfl rfl nofun (nofun)⟩
  case mov32s8 rd rs => exact ⟨_, rfl, .of_writes (move_writesReg _ _ _ _) rfl rfl rfl rfl nofun (fun c h => .of_uninit (readOne_raised (fun _ _ => finish_raised) h) rfl)⟩
  case mov32s16 rd rs => exact ⟨_, rfl, .of_writes (move_writesReg _ _ _ _) rfl rfl rfl rfl nofun (fun c h => .of_uninit (readOne_raised (fun _ _ => finish_raised) h) rfl)⟩
  case mov32s32 rd rs => exact ⟨_, rfl, .of_writes (move_writesReg _ _ _ _) rfl rfl rfl rfl nofun (fun c h => .of_uninit (readOne_raised (fun _ _ => finish_raised) h) rfl)⟩
  case endle16 rd => exact ⟨_, rfl, .of_writes (alu64Unary_writesReg _ _ _) rfl rfl rfl rfl nofun (fun c h => .of_uninit (readOne_raised (fun _ _ => finish_raised) h) rfl)⟩
  case endle32 rd => exact ⟨_, rfl, .of_writes (alu64Unary_writesReg _ _ _) rfl rfl rfl rfl nofun (fun c h => .of_uninit (readOne_raised (fun _ _ => finish_raised) h) rfl)⟩
  case endle64 rd => exact ⟨_, rfl, .of_writes (alu64Unary_writesReg _ _ _) rfl rfl rfl rfl nofun (fun c h => .of_uninit (readOne_raised (fun _ _ => finish_raised) h) rfl)⟩
  case endbe16 rd => exact ⟨_, rfl, .of_writes (alu64Unary_writesReg _ _ _) rfl rfl rfl rfl nofun (fun c h => .of_uninit (readOne_raised (fun _ _ => finish_raised) h) rfl)⟩
  case endbe32 rd => exact ⟨_, rfl, .of_writes (alu64Unary_writesReg _ _ _) rfl rfl rfl rfl nofun (fun c h => .of_uninit (readOne_raised (fun _ _ => finish_raised) h) rfl)⟩
  case endbe64 rd => exact ⟨_, rfl, .of_writes (alu64Unary_writesReg _ _ _) rfl rfl rfl rfl nofun (fun c h => .of_uninit (readOne_raised (fun _ _ => finish_raised) h) rfl)⟩
  case bswap16 rd => exact ⟨_, rfl, .of_writes (alu64Unary_writesReg _ _ _) rfl rfl rfl rfl nofun (fun c h => .of_uninit (readOne_raised (fun _ _ => finish_raised) h) rfl)⟩
  case bswap32 rd => exact ⟨_, rfl, .of_writes (alu64Unary_writesReg _ _ _) rfl rfl rfl rfl nofun (fun c h => .of_uninit (readOne_raised (fun _ _ => finish_raised) h) rfl)⟩
  case bswap64 rd => exact ⟨_, rfl, .of_writes (alu64Unary_writesReg _ _ _) rfl rfl rfl rfl nofun (fun c h => .of_uninit (readOne_raised (fun _ _ => finish_raised) h) rfl)⟩
  case lddw rd imm => exact ⟨.done () ((s.setReg rd imm).advance 2), rfl,
    fun t ht => by cases ht; exact .writes rd imm 2 s.draws rfl (Nat.le_refl _) rfl rfl rfl (.inr ⟨rfl, rd, imm, rfl⟩), nofun⟩
  case ldabsw imm => exact ⟨_, rfl, .of_packet (packetAbsolute_loadsPacket _ _ _) rfl fun c h => .of_packet (packetAbsolute_raised h) rfl rfl⟩
  case ldabsh imm => exact ⟨_, rfl, .of_packet (packetAbsolute_loadsPacket _ _ _) rfl fun c h => .of_packet (packetAbsolute_raised h) rfl rfl⟩
  case ldabsb imm => exact ⟨_, rfl, .of_packet (packetAbsolute_loadsPacket _ _ _) rfl fun c h => .of_packet (packetAbsolute_raised h) rfl rfl⟩
  case ldindw rs imm => exact ⟨_, rfl, .of_packet (packetIndirect_loadsPacket _ _ _ _) rfl fun c h => .of_packet (packetIndirect_raised h) rfl rfl⟩
  case ldindh rs imm => exact ⟨_, rfl, .of_packet (packetIndirect_loadsPacket _ _ _ _) rfl fun c h => .of_packet (packetIndirect_raised h) rfl rfl⟩
  case ldindb rs imm => exact ⟨_, rfl, .of_packet (packetIndirect_loadsPacket _ _ _ _) rfl fun c h => .of_packet (packetIndirect_raised h) rfl rfl⟩
  case ldxdw rd rs off => exact ⟨_, rfl, .of_load (load_loads _ _ _ _ _ _) rfl rfl rfl rfl nofun fun c h => .of_access (load_raised h) rfl rfl⟩
  case ldxw rd rs off => exact ⟨_, rfl, .of_load (load_loads _ _ _ _ _ _) rfl rfl rfl rfl nofun fun c h => .of_access (load_raised h) rfl rfl⟩
  case ldxh rd rs off => exact ⟨_, rfl, .of_load (load_loads _ _ _ _ _ _) rfl rfl rfl rfl nofun fun c h => .of_access (load_raised h) rfl rfl⟩
  case ldxb rd rs off => exact ⟨_, rfl, .of_load (load_loads _ _ _ _ _ _) rfl rfl rfl rfl nofun fun c h => .of_access (load_raised h) rfl rfl⟩
  case ldxsdw rd rs off => exact ⟨_, rfl, .of_load (load_loads _ _ _ _ _ _) rfl rfl rfl rfl nofun fun c h => .of_access (load_raised h) rfl rfl⟩
  case ldxsw rd rs off => exact ⟨_, rfl, .of_load (load_loads _ _ _ _ _ _) rfl rfl rfl rfl nofun fun c h => .of_access (load_raised h) rfl rfl⟩
  case ldxsh rd rs off => exact ⟨_, rfl, .of_load (load_loads _ _ _ _ _ _) rfl rfl rfl rfl nofun fun c h => .of_access (load_raised h) rfl rfl⟩
  case ldxsb rd rs off => exact ⟨_, rfl, .of_load (load_loads _ _ _ _ _ _) rfl rfl rfl rfl nofun fun c h => .of_access (load_raised h) rfl rfl⟩
  case stxdw rd rs off => exact ⟨_, rfl, .of_stores (storeReg_stores _ _ _ _ _) rfl nofun (nofun) rfl rfl
    fun c h => .of_access (storeReg_raised h) rfl rfl⟩
  case stxw rd rs off => exact ⟨_, rfl, .of_stores (storeReg_stores _ _ _ _ _) rfl nofun (nofun) rfl rfl
    fun c h => .of_access (storeReg_raised h) rfl rfl⟩
  case stxh rd rs off => exact ⟨_, rfl, .of_stores (storeReg_stores _ _ _ _ _) rfl nofun (nofun) rfl rfl
    fun c h => .of_access (storeReg_raised h) rfl rfl⟩
  case stxb rd rs off => exact ⟨_, rfl, .of_stores (storeReg_stores _ _ _ _ _) rfl nofun (nofun) rfl rfl
    fun c h => .of_access (storeReg_raised h) rfl rfl⟩
  case stdw rd off imm => exact ⟨_, rfl, .of_stores (storeImm_stores _ _ _ _ _) rfl nofun (nofun) rfl rfl
    fun c h => .of_access (storeImm_raised h) rfl rfl⟩
  case stw rd off imm => exact ⟨_, rfl, .of_stores (storeImm_stores _ _ _ _ _) rfl nofun (nofun) rfl rfl
    fun c h => .of_access (storeImm_raised h) rfl rfl⟩
  case sth rd off imm => exact ⟨_, rfl, .of_stores (storeImm_stores _ _ _ _ _) rfl nofun (nofun) rfl rfl
    fun c h => .of_access (storeImm_raised h) rfl rfl⟩
  case stb rd off imm => exact ⟨_, rfl, .of_stores (storeImm_stores _ _ _ _ _) rfl nofun (nofun) rfl rfl
    fun c h => .of_access (storeImm_raised h) rfl rfl⟩
  case ja disp => exact ⟨_, rfl, .of_jumps (jumpAlways_jumps _ _) rfl nofun⟩
  case jal disp => exact ⟨_, rfl, .of_jumps (jumpAlways_jumps _ _) rfl nofun⟩
  case jeqReg rd rs disp => exact ⟨_, rfl, .of_jumps (jump64Reg_jumps _ _ _ _ _) rfl
    fun c h => .of_uninit (readTwo_raised (fun _ _ _ => branch_raised) h) rfl⟩
  case jeqImm rd imm disp => exact ⟨_, rfl, .of_jumps (jump64Imm_jumps _ _ _ _ _) rfl
    fun c h => .of_uninit (readOne_raised (fun _ _ => branch_raised) h) rfl⟩
  case jgtReg rd rs disp => exact ⟨_, rfl, .of_jumps (jump64Reg_jumps _ _ _ _ _) rfl
    fun c h => .of_uninit (readTwo_raised (fun _ _ _ => branch_raised) h) rfl⟩
  case jgtImm rd imm disp => exact ⟨_, rfl, .of_jumps (jump64Imm_jumps _ _ _ _ _) rfl
    fun c h => .of_uninit (readOne_raised (fun _ _ => branch_raised) h) rfl⟩
  case jgeReg rd rs disp => exact ⟨_, rfl, .of_jumps (jump64Reg_jumps _ _ _ _ _) rfl
    fun c h => .of_uninit (readTwo_raised (fun _ _ _ => branch_raised) h) rfl⟩
  case jgeImm rd imm disp => exact ⟨_, rfl, .of_jumps (jump64Imm_jumps _ _ _ _ _) rfl
    fun c h => .of_uninit (readOne_raised (fun _ _ => branch_raised) h) rfl⟩
  case jltReg rd rs disp => exact ⟨_, rfl, .of_jumps (jump64Reg_jumps _ _ _ _ _) rfl
    fun c h => .of_uninit (readTwo_raised (fun _ _ _ => branch_raised) h) rfl⟩
  case jltImm rd imm disp => exact ⟨_, rfl, .of_jumps (jump64Imm_jumps _ _ _ _ _) rfl
    fun c h => .of_uninit (readOne_raised (fun _ _ => branch_raised) h) rfl⟩
  case jleReg rd rs disp => exact ⟨_, rfl, .of_jumps (jump64Reg_jumps _ _ _ _ _) rfl
    fun c h => .of_uninit (readTwo_raised (fun _ _ _ => branch_raised) h) rfl⟩
  case jleImm rd imm disp => exact ⟨_, rfl, .of_jumps (jump64Imm_jumps _ _ _ _ _) rfl
    fun c h => .of_uninit (readOne_raised (fun _ _ => branch_raised) h) rfl⟩
  case jsetReg rd rs disp => exact ⟨_, rfl, .of_jumps (jump64Reg_jumps _ _ _ _ _) rfl
    fun c h => .of_uninit (readTwo_raised (fun _ _ _ => branch_raised) h) rfl⟩
  case jsetImm rd imm disp => exact ⟨_, rfl, .of_jumps (jump64Imm_jumps _ _ _ _ _) rfl
    fun c h => .of_uninit (readOne_raised (fun _ _ => branch_raised) h) rfl⟩
  case jneReg rd rs disp => exact ⟨_, rfl, .of_jumps (jump64Reg_jumps _ _ _ _ _) rfl
    fun c h => .of_uninit (readTwo_raised (fun _ _ _ => branch_raised) h) rfl⟩
  case jneImm rd imm disp => exact ⟨_, rfl, .of_jumps (jump64Imm_jumps _ _ _ _ _) rfl
    fun c h => .of_uninit (readOne_raised (fun _ _ => branch_raised) h) rfl⟩
  case jsgtReg rd rs disp => exact ⟨_, rfl, .of_jumps (jump64Reg_jumps _ _ _ _ _) rfl
    fun c h => .of_uninit (readTwo_raised (fun _ _ _ => branch_raised) h) rfl⟩
  case jsgtImm rd imm disp => exact ⟨_, rfl, .of_jumps (jump64Imm_jumps _ _ _ _ _) rfl
    fun c h => .of_uninit (readOne_raised (fun _ _ => branch_raised) h) rfl⟩
  case jsgeReg rd rs disp => exact ⟨_, rfl, .of_jumps (jump64Reg_jumps _ _ _ _ _) rfl
    fun c h => .of_uninit (readTwo_raised (fun _ _ _ => branch_raised) h) rfl⟩
  case jsgeImm rd imm disp => exact ⟨_, rfl, .of_jumps (jump64Imm_jumps _ _ _ _ _) rfl
    fun c h => .of_uninit (readOne_raised (fun _ _ => branch_raised) h) rfl⟩
  case jsltReg rd rs disp => exact ⟨_, rfl, .of_jumps (jump64Reg_jumps _ _ _ _ _) rfl
    fun c h => .of_uninit (readTwo_raised (fun _ _ _ => branch_raised) h) rfl⟩
  case jsltImm rd imm disp => exact ⟨_, rfl, .of_jumps (jump64Imm_jumps _ _ _ _ _) rfl
    fun c h => .of_uninit (readOne_raised (fun _ _ => branch_raised) h) rfl⟩
  case jsleReg rd rs disp => exact ⟨_, rfl, .of_jumps (jump64Reg_jumps _ _ _ _ _) rfl
    fun c h => .of_uninit (readTwo_raised (fun _ _ _ => branch_raised) h) rfl⟩
  case jsleImm rd imm disp => exact ⟨_, rfl, .of_jumps (jump64Imm_jumps _ _ _ _ _) rfl
    fun c h => .of_uninit (readOne_raised (fun _ _ => branch_raised) h) rfl⟩
  case callLocal disp => exact ⟨_, rfl, callLocal_does ..⟩
  case callHelper id => exact ⟨_, rfl, callHelper_does ..⟩
  case exit => exact ⟨_, rfl, exitOrReturn_does ..⟩
  case jeq32Reg rd rs disp => exact ⟨_, rfl, .of_jumps (jump32Reg_jumps _ _ _ _ _) rfl
    fun c h => .of_uninit (readTwo_raised (fun _ _ _ => branch_raised) h) rfl⟩
  case jeq32Imm rd imm disp => exact ⟨_, rfl, .of_jumps (jump32Imm_jumps _ _ _ _ _) rfl
    fun c h => .of_uninit (readOne_raised (fun _ _ => branch_raised) h) rfl⟩
  case jgt32Reg rd rs disp => exact ⟨_, rfl, .of_jumps (jump32Reg_jumps _ _ _ _ _) rfl
    fun c h => .of_uninit (readTwo_raised (fun _ _ _ => branch_raised) h) rfl⟩
  case jgt32Imm rd imm disp => exact ⟨_, rfl, .of_jumps (jump32Imm_jumps _ _ _ _ _) rfl
    fun c h => .of_uninit (readOne_raised (fun _ _ => branch_raised) h) rfl⟩
  case jge32Reg rd rs disp => exact ⟨_, rfl, .of_jumps (jump32Reg_jumps _ _ _ _ _) rfl
    fun c h => .of_uninit (readTwo_raised (fun _ _ _ => branch_raised) h) rfl⟩
  case jge32Imm rd imm disp => exact ⟨_, rfl, .of_jumps (jump32Imm_jumps _ _ _ _ _) rfl
    fun c h => .of_uninit (readOne_raised (fun _ _ => branch_raised) h) rfl⟩
  case jlt32Reg rd rs disp => exact ⟨_, rfl, .of_jumps (jump32Reg_jumps _ _ _ _ _) rfl
    fun c h => .of_uninit (readTwo_raised (fun _ _ _ => branch_raised) h) rfl⟩
  case jlt32Imm rd imm disp => exact ⟨_, rfl, .of_jumps (jump32Imm_jumps _ _ _ _ _) rfl
    fun c h => .of_uninit (readOne_raised (fun _ _ => branch_raised) h) rfl⟩
  case jle32Reg rd rs disp => exact ⟨_, rfl, .of_jumps (jump32Reg_jumps _ _ _ _ _) rfl
    fun c h => .of_uninit (readTwo_raised (fun _ _ _ => branch_raised) h) rfl⟩
  case jle32Imm rd imm disp => exact ⟨_, rfl, .of_jumps (jump32Imm_jumps _ _ _ _ _) rfl
    fun c h => .of_uninit (readOne_raised (fun _ _ => branch_raised) h) rfl⟩
  case jset32Reg rd rs disp => exact ⟨_, rfl, .of_jumps (jump32Reg_jumps _ _ _ _ _) rfl
    fun c h => .of_uninit (readTwo_raised (fun _ _ _ => branch_raised) h) rfl⟩
  case jset32Imm rd imm disp => exact ⟨_, rfl, .of_jumps (jump32Imm_jumps _ _ _ _ _) rfl
    fun c h => .of_uninit (readOne_raised (fun _ _ => branch_raised) h) rfl⟩
  case jne32Reg rd rs disp => exact ⟨_, rfl, .of_jumps (jump32Reg_jumps _ _ _ _ _) rfl
    fun c h => .of_uninit (readTwo_raised (fun _ _ _ => branch_raised) h) rfl⟩
  case jne32Imm rd imm disp => exact ⟨_, rfl, .of_jumps (jump32Imm_jumps _ _ _ _ _) rfl
    fun c h => .of_uninit (readOne_raised (fun _ _ => branch_raised) h) rfl⟩
  case jsgt32Reg rd rs disp => exact ⟨_, rfl, .of_jumps (jump32Reg_jumps _ _ _ _ _) rfl
    fun c h => .of_uninit (readTwo_raised (fun _ _ _ => branch_raised) h) rfl⟩
  case jsgt32Imm rd imm disp => exact ⟨_, rfl, .of_jumps (jump32Imm_jumps _ _ _ _ _) rfl
    fun c h => .of_uninit (readOne_raised (fun _ _ => branch_raised) h) rfl⟩
  case jsge32Reg rd rs disp => exact ⟨_, rfl, .of_jumps (jump32Reg_jumps _ _ _ _ _) rfl
    fun c h => .of_uninit (readTwo_raised (fun _ _ _ => branch_raised) h) rfl⟩
  case jsge32Imm rd imm disp => exact ⟨_, rfl, .of_jumps (jump32Imm_jumps _ _ _ _ _) rfl
    fun c h => .of_uninit (readOne_raised (fun _ _ => branch_raised) h) rfl⟩
  case jslt32Reg rd rs disp => exact ⟨_, rfl, .of_jumps (jump32Reg_jumps _ _ _ _ _) rfl
    fun c h => .of_uninit (readTwo_raised (fun _ _ _ => branch_raised) h) rfl⟩
  case jslt32Imm rd imm disp => exact ⟨_, rfl, .of_jumps (jump32Imm_jumps _ _ _ _ _) rfl
    fun c h => .of_uninit (readOne_raised (fun _ _ => branch_raised) h) rfl⟩
  case jsle32Reg rd rs disp => exact ⟨_, rfl, .of_jumps (jump32Reg_jumps _ _ _ _ _) rfl
    fun c h => .of_uninit (readTwo_raised (fun _ _ _ => branch_raised) h) rfl⟩
  case jsle32Imm rd imm disp => exact ⟨_, rfl, .of_jumps (jump32Imm_jumps _ _ _ _ _) rfl
    fun c h => .of_uninit (readOne_raised (fun _ _ => branch_raised) h) rfl⟩
  case acmp rd rs off => exact ⟨_, rfl, .of_stores (atomicCompare_stores _ _ _ _ _) rfl nofun (by simp [mayChange, implicitWrites]) rfl rfl
    fun c h => .of_access (atomicCompare_raised h) rfl rfl⟩
  case axchg rd rs off => exact ⟨_, rfl, .of_stores (atomicFetch_stores _ _ _ _ _ _) rfl nofun (by simp [mayChange, writtenOperand]) rfl rfl
    fun c h => .of_access (atomicFetch_raised h) rfl rfl⟩
  case aadd rd rs off => exact ⟨_, rfl, .of_stores (atomicUpdate_stores _ _ _ _ _ _) rfl nofun (nofun) rfl rfl
    fun c h => .of_access (atomicUpdate_raised h) rfl rfl⟩
  case aor rd rs off => exact ⟨_, rfl, .of_stores (atomicUpdate_stores _ _ _ _ _ _) rfl nofun (nofun) rfl rfl
    fun c h => .of_access (atomicUpdate_raised h) rfl rfl⟩
  case aand rd rs off => exact ⟨_, rfl, .of_stores (atomicUpdate_stores _ _ _ _ _ _) rfl nofun (nofun) rfl rfl
    fun c h => .of_access (atomicUpdate_raised h) rfl rfl⟩
  case axor rd rs off => exact ⟨_, rfl, .of_stores (atomicUpdate_stores _ _ _ _ _ _) rfl nofun (nofun) rfl rfl
    fun c h => .of_access (atomicUpdate_raised h) rfl rfl⟩
  case afadd rd rs off => exact ⟨_, rfl, .of_stores (atomicFetch_stores _ _ _ _ _ _) rfl nofun (by simp [mayChange, writtenOperand]) rfl rfl
    fun c h => .of_access (atomicFetch_raised h) rfl rfl⟩
  case afor rd rs off => exact ⟨_, rfl, .of_stores (atomicFetch_stores _ _ _ _ _ _) rfl nofun (by simp [mayChange, writtenOperand]) rfl rfl
    fun c h => .of_access (atomicFetch_raised h) rfl rfl⟩
  case afand rd rs off => exact ⟨_, rfl, .of_stores (atomicFetch_stores _ _ _ _ _ _) rfl nofun (by simp [mayChange, writtenOperand]) rfl rfl
    fun c h => .of_access (atomicFetch_raised h) rfl rfl⟩
  case afxor rd rs off => exact ⟨_, rfl, .of_stores (atomicFetch_stores _ _ _ _ _ _) rfl nofun (by simp [mayChange, writtenOperand]) rfl rfl
    fun c h => .of_access (atomicFetch_raised h) rfl rfl⟩
  case acmp32 rd rs off => exact ⟨_, rfl, .of_stores (atomicCompare_stores _ _ _ _ _) rfl nofun (by simp [mayChange, implicitWrites]) rfl rfl
    fun c h => .of_access (atomicCompare_raised h) rfl rfl⟩
  case axchg32 rd rs off => exact ⟨_, rfl, .of_stores (atomicFetch_stores _ _ _ _ _ _) rfl nofun (by simp [mayChange, writtenOperand]) rfl rfl
    fun c h => .of_access (atomicFetch_raised h) rfl rfl⟩
  case aadd32 rd rs off => exact ⟨_, rfl, .of_stores (atomicUpdate_stores _ _ _ _ _ _) rfl nofun (nofun) rfl rfl
    fun c h => .of_access (atomicUpdate_raised h) rfl rfl⟩
  case aor32 rd rs off => exact ⟨_, rfl, .of_stores (atomicUpdate_stores _ _ _ _ _ _) rfl nofun (nofun) rfl rfl
    fun c h => .of_access (atomicUpdate_raised h) rfl rfl⟩
  case aand32 rd rs off => exact ⟨_, rfl, .of_stores (atomicUpdate_stores _ _ _ _ _ _) rfl nofun (nofun) rfl rfl
    fun c h => .of_access (atomicUpdate_raised h) rfl rfl⟩
  case axor32 rd rs off => exact ⟨_, rfl, .of_stores (atomicUpdate_stores _ _ _ _ _ _) rfl nofun (nofun) rfl rfl
    fun c h => .of_access (atomicUpdate_raised h) rfl rfl⟩
  case afadd32 rd rs off => exact ⟨_, rfl, .of_stores (atomicFetch_stores _ _ _ _ _ _) rfl nofun (by simp [mayChange, writtenOperand]) rfl rfl
    fun c h => .of_access (atomicFetch_raised h) rfl rfl⟩
  case afor32 rd rs off => exact ⟨_, rfl, .of_stores (atomicFetch_stores _ _ _ _ _ _) rfl nofun (by simp [mayChange, writtenOperand]) rfl rfl
    fun c h => .of_access (atomicFetch_raised h) rfl rfl⟩
  case afand32 rd rs off => exact ⟨_, rfl, .of_stores (atomicFetch_stores _ _ _ _ _ _) rfl nofun (by simp [mayChange, writtenOperand]) rfl rfl
    fun c h => .of_access (atomicFetch_raised h) rfl rfl⟩
  case afxor32 rd rs off => exact ⟨_, rfl, .of_stores (atomicFetch_stores _ _ _ _ _ _) rfl nofun (by simp [mayChange, writtenOperand]) rfl rfl
    fun c h => .of_access (atomicFetch_raised h) rfl rfl⟩

/-- What a step of an instruction can come to: a listed effect, or a listed fault taken in the state before. -/
theorem exec_next {i : Instr} {s t : State} (h : exec i s = .next t) :
    Effect i s t ∨ ∃ c, Raises i s c ∧ t = s.raise c := by
  obtain ⟨r, hr, hd⟩ := exec_does i s
  rw [hr] at h
  obtain hr | ⟨c, hr, rfl⟩ := commit_cases h
  · exact .inl (hd.1 t hr)
  · exact .inr ⟨c, hd.2 c hr, rfl⟩

/-- Every instruction has a next state. -/
theorem exec_total (i : Instr) (s : State) : ∃ t, exec i s = .next t := by
  obtain ⟨r, hr, -⟩ := exec_does i s
  exact ⟨_, hr⟩

end Sys2Proof.Machine
end

