-- ==== Sys2Proof/Laws/PerInstr.lean ====
section
/-! SUPPORT. The per-instruction family `EncodesRow`: the encoded word of an instruction matches the row of
spec/opcode_table.json that its constructor stands for, mask and match copied from the row. -/

namespace Sys2Proof.Laws

/-- The "and" of two canonical words, field by field. -/
theorem word_and (i mi : BitVec 32) (o mo : BitVec 16) (s ms d md : BitVec 4) (c mc : BitVec 8) :
    (Fields.mk c d s o i).word &&& (Fields.mk mc md ms mo mi).word =
      (Fields.mk (c &&& mc) (d &&& md) (s &&& ms) (o &&& mo) (i &&& mi)).word := by
  have h {w v : Nat} (x y : BitVec w) (p q : BitVec v) : (x ++ p) &&& (y ++ q) = (x &&& y) ++ (p &&& q) :=
    BitVec.and_append
  exact (h _ _ _ _).trans (congrArg (· ++ (c &&& mc)) ((h _ _ _ _).trans (congrArg (· ++ (d &&& md))
    ((h _ _ _ _).trans (congrArg (· ++ (s &&& ms)) (h _ _ _ _))))))

/-- A word matches a row when its fields, under the fields of the mask, are the fields of the match. -/
theorem word_matches (f m r : Fields) {mask matchWord : BitVec 64} (hm : m.word = mask) (hr : r.word = matchWord)
    (h : Fields.mk (f.opcode &&& m.opcode) (f.dst &&& m.dst) (f.src &&& m.src) (f.offset &&& m.offset)
      (f.imm &&& m.imm) = r) : f.word &&& mask = matchWord := by
  subst hm hr h; exact word_and ..

/-- The word of `i` matches its row of the table (rules R93, R108). -/
def EncodesRow.Statement (i : Instr) : Prop := (encodeFirst i).word &&& (Machine.tableRow i).1 = (Machine.tableRow i).2

theorem EncodesRow.addReg (rd : Reg) (rs : Reg) : EncodesRow.Statement (.addReg rd rs) :=
  word_matches ⟨0xf, rd.num, rs.num, 0, 0x0⟩ ⟨0xff, 0, 0, 0xffff, 0xffffffff⟩ ⟨0xf, 0, 0, 0x0, 0x0⟩ rfl rfl (by simp)

theorem EncodesRow.addImm (rd : Reg) (imm : BitVec 32) : EncodesRow.Statement (.addImm rd imm) :=
  word_matches ⟨0x7, rd.num, 0, 0, imm⟩ ⟨0xff, 0, 15, 0xffff, 0x0⟩ ⟨0x7, 0, 0, 0x0, 0x0⟩ rfl rfl (by simp)

theorem EncodesRow.subReg (rd : Reg) (rs : Reg) : EncodesRow.Statement (.subReg rd rs) :=
  word_matches ⟨0x1f, rd.num, rs.num, 0, 0x0⟩ ⟨0xff, 0, 0, 0xffff, 0xffffffff⟩ ⟨0x1f, 0, 0, 0x0, 0x0⟩ rfl rfl (by simp)

theorem EncodesRow.subImm (rd : Reg) (imm : BitVec 32) : EncodesRow.Statement (.subImm rd imm) :=
  word_matches ⟨0x17, rd.num, 0, 0, imm⟩ ⟨0xff, 0, 15, 0xffff, 0x0⟩ ⟨0x17, 0, 0, 0x0, 0x0⟩ rfl rfl (by simp)

theorem EncodesRow.mulReg (rd : Reg) (rs : Reg) : EncodesRow.Statement (.mulReg rd rs) :=
  word_matches ⟨0x2f, rd.num, rs.num, 0, 0x0⟩ ⟨0xff, 0, 0, 0xffff, 0xffffffff⟩ ⟨0x2f, 0, 0, 0x0, 0x0⟩ rfl rfl (by simp)

theorem EncodesRow.mulImm (rd : Reg) (imm : BitVec 32) : EncodesRow.Statement (.mulImm rd imm) :=
  word_matches ⟨0x27, rd.num, 0, 0, imm⟩ ⟨0xff, 0, 15, 0xffff, 0x0⟩ ⟨0x27, 0, 0, 0x0, 0x0⟩ rfl rfl (by simp)

theorem EncodesRow.divReg (rd : Reg) (rs : Reg) : EncodesRow.Statement (.divReg rd rs) :=
  word_matches ⟨0x3f, rd.num, rs.num, 0, 0x0⟩ ⟨0xff, 0, 0, 0xffff, 0xffffffff⟩ ⟨0x3f, 0, 0, 0x0, 0x0⟩ rfl rfl (by simp)

theorem EncodesRow.divImm (rd : Reg) (imm : BitVec 32) : EncodesRow.Statement (.divImm rd imm) :=
  word_matches ⟨0x37, rd.num, 0, 0, imm⟩ ⟨0xff, 0, 15, 0xffff, 0x0⟩ ⟨0x37, 0, 0, 0x0, 0x0⟩ rfl rfl (by simp)

theorem EncodesRow.modReg (rd : Reg) (rs : Reg) : EncodesRow.Statement (.modReg rd rs) :=
  word_matches ⟨0x9f, rd.num, rs.num, 0, 0x0⟩ ⟨0xff, 0, 0, 0xffff, 0xffffffff⟩ ⟨0x9f, 0, 0, 0x0, 0x0⟩ rfl rfl (by simp)

theorem EncodesRow.modImm (rd : Reg) (imm : BitVec 32) : EncodesRow.Statement (.modImm rd imm) :=
  word_matches ⟨0x97, rd.num, 0, 0, imm⟩ ⟨0xff, 0, 15, 0xffff, 0x0⟩ ⟨0x97, 0, 0, 0x0, 0x0⟩ rfl rfl (by simp)

theorem EncodesRow.andReg (rd : Reg) (rs : Reg) : EncodesRow.Statement (.andReg rd rs) :=
  word_matches ⟨0x5f, rd.num, rs.num, 0, 0x0⟩ ⟨0xff, 0, 0, 0xffff, 0xffffffff⟩ ⟨0x5f, 0, 0, 0x0, 0x0⟩ rfl rfl (by simp)

theorem EncodesRow.andImm (rd : Reg) (imm : BitVec 32) : EncodesRow.Statement (.andImm rd imm) :=
  word_matches ⟨0x57, rd.num, 0, 0, imm⟩ ⟨0xff, 0, 15, 0xffff, 0x0⟩ ⟨0x57, 0, 0, 0x0, 0x0⟩ rfl rfl (by simp)

theorem EncodesRow.orReg (rd : Reg) (rs : Reg) : EncodesRow.Statement (.orReg rd rs) :=
  word_matches ⟨0x4f, rd.num, rs.num, 0, 0x0⟩ ⟨0xff, 0, 0, 0xffff, 0xffffffff⟩ ⟨0x4f, 0, 0, 0x0, 0x0⟩ rfl rfl (by simp)

theorem EncodesRow.orImm (rd : Reg) (imm : BitVec 32) : EncodesRow.Statement (.orImm rd imm) :=
  word_matches ⟨0x47, rd.num, 0, 0, imm⟩ ⟨0xff, 0, 15, 0xffff, 0x0⟩ ⟨0x47, 0, 0, 0x0, 0x0⟩ rfl rfl (by simp)

theorem EncodesRow.xorReg (rd : Reg) (rs : Reg) : EncodesRow.Statement (.xorReg rd rs) :=
  word_matches ⟨0xaf, rd.num, rs.num, 0, 0x0⟩ ⟨0xff, 0, 0, 0xffff, 0xffffffff⟩ ⟨0xaf, 0, 0, 0x0, 0x0⟩ rfl rfl (by simp)

theorem EncodesRow.xorImm (rd : Reg) (imm : BitVec 32) : EncodesRow.Statement (.xorImm rd imm) :=
  word_matches ⟨0xa7, rd.num, 0, 0, imm⟩ ⟨0xff, 0, 15, 0xffff, 0x0⟩ ⟨0xa7, 0, 0, 0x0, 0x0⟩ rfl rfl (by simp)

theorem EncodesRow.lshReg (rd : Reg) (rs : Reg) : EncodesRow.Statement (.lshReg rd rs) :=
  word_matches ⟨0x6f, rd.num, rs.num, 0, 0x0⟩ ⟨0xff, 0, 0, 0xffff, 0xffffffff⟩ ⟨0x6f, 0, 0, 0x0, 0x0⟩ rfl rfl (by simp)

theorem EncodesRow.lshImm (rd : Reg) (imm : BitVec 32) : EncodesRow.Statement (.lshImm rd imm) :=
  word_matches ⟨0x67, rd.num, 0, 0, imm⟩ ⟨0xff, 0, 15, 0xffff, 0x0⟩ ⟨0x67, 0, 0, 0x0, 0x0⟩ rfl rfl (by simp)

theorem EncodesRow.rshReg (rd : Reg) (rs : Reg) : EncodesRow.Statement (.rshReg rd rs) :=
  word_matches ⟨0x7f, rd.num, rs.num, 0, 0x0⟩ ⟨0xff, 0, 0, 0xffff, 0xffffffff⟩ ⟨0x7f, 0, 0, 0x0, 0x0⟩ rfl rfl (by simp)

theorem EncodesRow.rshImm (rd : Reg) (imm : BitVec 32) : EncodesRow.Statement (.rshImm rd imm) :=
  word_matches ⟨0x77, rd.num, 0, 0, imm⟩ ⟨0xff, 0, 15, 0xffff, 0x0⟩ ⟨0x77, 0, 0, 0x0, 0x0⟩ rfl rfl (by simp)

theorem EncodesRow.arshReg (rd : Reg) (rs : Reg) : EncodesRow.Statement (.arshReg rd rs) :=
  word_matches ⟨0xcf, rd.num, rs.num, 0, 0x0⟩ ⟨0xff, 0, 0, 0xffff, 0xffffffff⟩ ⟨0xcf, 0, 0, 0x0, 0x0⟩ rfl rfl (by simp)

theorem EncodesRow.arshImm (rd : Reg) (imm : BitVec 32) : EncodesRow.Statement (.arshImm rd imm) :=
  word_matches ⟨0xc7, rd.num, 0, 0, imm⟩ ⟨0xff, 0, 15, 0xffff, 0x0⟩ ⟨0xc7, 0, 0, 0x0, 0x0⟩ rfl rfl (by simp)

theorem EncodesRow.neg (rd : Reg) : EncodesRow.Statement (.neg rd) :=
  word_matches ⟨0x87, rd.num, 0, 0, 0x0⟩ ⟨0xff, 0, 15, 0xffff, 0xffffffff⟩ ⟨0x87, 0, 0, 0x0, 0x0⟩ rfl rfl (by simp)

theorem EncodesRow.movReg (rd : Reg) (rs : Reg) : EncodesRow.Statement (.movReg rd rs) :=
  word_matches ⟨0xbf, rd.num, rs.num, 0, 0x0⟩ ⟨0xff, 0, 0, 0xffff, 0xffffffff⟩ ⟨0xbf, 0, 0, 0x0, 0x0⟩ rfl rfl (by simp)

theorem EncodesRow.movImm (rd : Reg) (imm : BitVec 32) : EncodesRow.Statement (.movImm rd imm) :=
  word_matches ⟨0xb7, rd.num, 0, 0, imm⟩ ⟨0xff, 0, 15, 0xffff, 0x0⟩ ⟨0xb7, 0, 0, 0x0, 0x0⟩ rfl rfl (by simp)

theorem EncodesRow.movs8 (rd : Reg) (rs : Reg) : EncodesRow.Statement (.movs8 rd rs) :=
  word_matches ⟨0xbf, rd.num, rs.num, 8, 0x0⟩ ⟨0xff, 0, 0, 0xffff, 0xffffffff⟩ ⟨0xbf, 0, 0, 0x8, 0x0⟩ rfl rfl (by simp)

theorem EncodesRow.movs16 (rd : Reg) (rs : Reg) : EncodesRow.Statement (.movs16 rd rs) :=
  word_matches ⟨0xbf, rd.num, rs.num, 16, 0x0⟩ ⟨0xff, 0, 0, 0xffff, 0xffffffff⟩ ⟨0xbf, 0, 0, 0x10, 0x0⟩ rfl rfl (by simp)

theorem EncodesRow.movs32 (rd : Reg) (rs : Reg) : EncodesRow.Statement (.movs32 rd rs) :=
  word_matches ⟨0xbf, rd.num, rs.num, 32, 0x0⟩ ⟨0xff, 0, 0, 0xffff, 0xffffffff⟩ ⟨0xbf, 0, 0, 0x20, 0x0⟩ rfl rfl (by simp)

theorem EncodesRow.add32Reg (rd : Reg) (rs : Reg) : EncodesRow.Statement (.add32Reg rd rs) :=
  word_matches ⟨0xc, rd.num, rs.num, 0, 0x0⟩ ⟨0xff, 0, 0, 0xffff, 0xffffffff⟩ ⟨0xc, 0, 0, 0x0, 0x0⟩ rfl rfl (by simp)

theorem EncodesRow.add32Imm (rd : Reg) (imm : BitVec 32) : EncodesRow.Statement (.add32Imm rd imm) :=
  word_matches ⟨0x4, rd.num, 0, 0, imm⟩ ⟨0xff, 0, 15, 0xffff, 0x0⟩ ⟨0x4, 0, 0, 0x0, 0x0⟩ rfl rfl (by simp)

theorem EncodesRow.sub32Reg (rd : Reg) (rs : Reg) : EncodesRow.Statement (.sub32Reg rd rs) :=
  word_matches ⟨0x1c, rd.num, rs.num, 0, 0x0⟩ ⟨0xff, 0, 0, 0xffff, 0xffffffff⟩ ⟨0x1c, 0, 0, 0x0, 0x0⟩ rfl rfl (by simp)

theorem EncodesRow.sub32Imm (rd : Reg) (imm : BitVec 32) : EncodesRow.Statement (.sub32Imm rd imm) :=
  word_matches ⟨0x14, rd.num, 0, 0, imm⟩ ⟨0xff, 0, 15, 0xffff, 0x0⟩ ⟨0x14, 0, 0, 0x0, 0x0⟩ rfl rfl (by simp)

theorem EncodesRow.mul32Reg (rd : Reg) (rs : Reg) : EncodesRow.Statement (.mul32Reg rd rs) :=
  word_matches ⟨0x2c, rd.num, rs.num, 0, 0x0⟩ ⟨0xff, 0, 0, 0xffff, 0xffffffff⟩ ⟨0x2c, 0, 0, 0x0, 0x0⟩ rfl rfl (by simp)

theorem EncodesRow.mul32Imm (rd : Reg) (imm : BitVec 32) : EncodesRow.Statement (.mul32Imm rd imm) :=
  word_matches ⟨0x24, rd.num, 0, 0, imm⟩ ⟨0xff, 0, 15, 0xffff, 0x0⟩ ⟨0x24, 0, 0, 0x0, 0x0⟩ rfl rfl (by simp)

theorem EncodesRow.div32Reg (rd : Reg) (rs : Reg) : EncodesRow.Statement (.div32Reg rd rs) :=
  word_matches ⟨0x3c, rd.num, rs.num, 0, 0x0⟩ ⟨0xff, 0, 0, 0xffff, 0xffffffff⟩ ⟨0x3c, 0, 0, 0x0, 0x0⟩ rfl rfl (by simp)

theorem EncodesRow.div32Imm (rd : Reg) (imm : BitVec 32) : EncodesRow.Statement (.div32Imm rd imm) :=
  word_matches ⟨0x34, rd.num, 0, 0, imm⟩ ⟨0xff, 0, 15, 0xffff, 0x0⟩ ⟨0x34, 0, 0, 0x0, 0x0⟩ rfl rfl (by simp)

theorem EncodesRow.mod32Reg (rd : Reg) (rs : Reg) : EncodesRow.Statement (.mod32Reg rd rs) :=
  word_matches ⟨0x9c, rd.num, rs.num, 0, 0x0⟩ ⟨0xff, 0, 0, 0xffff, 0xffffffff⟩ ⟨0x9c, 0, 0, 0x0, 0x0⟩ rfl rfl (by simp)

theorem EncodesRow.mod32Imm (rd : Reg) (imm : BitVec 32) : EncodesRow.Statement (.mod32Imm rd imm) :=
  word_matches ⟨0x94, rd.num, 0, 0, imm⟩ ⟨0xff, 0, 15, 0xffff, 0x0⟩ ⟨0x94, 0, 0, 0x0, 0x0⟩ rfl rfl (by simp)

theorem EncodesRow.and32Reg (rd : Reg) (rs : Reg) : EncodesRow.Statement (.and32Reg rd rs) :=
  word_matches ⟨0x5c, rd.num, rs.num, 0, 0x0⟩ ⟨0xff, 0, 0, 0xffff, 0xffffffff⟩ ⟨0x5c, 0, 0, 0x0, 0x0⟩ rfl rfl (by simp)

theorem EncodesRow.and32Imm (rd : Reg) (imm : BitVec 32) : EncodesRow.Statement (.and32Imm rd imm) :=
  word_matches ⟨0x54, rd.num, 0, 0, imm⟩ ⟨0xff, 0, 15, 0xffff, 0x0⟩ ⟨0x54, 0, 0, 0x0, 0x0⟩ rfl rfl (by simp)

theorem EncodesRow.or32Reg (rd : Reg) (rs : Reg) : EncodesRow.Statement (.or32Reg rd rs) :=
  word_matches ⟨0x4c, rd.num, rs.num, 0, 0x0⟩ ⟨0xff, 0, 0, 0xffff, 0xffffffff⟩ ⟨0x4c, 0, 0, 0x0, 0x0⟩ rfl rfl (by simp)

theorem EncodesRow.or32Imm (rd : Reg) (imm : BitVec 32) : EncodesRow.Statement (.or32Imm rd imm) :=
  word_matches ⟨0x44, rd.num, 0, 0, imm⟩ ⟨0xff, 0, 15, 0xffff, 0x0⟩ ⟨0x44, 0, 0, 0x0, 0x0⟩ rfl rfl (by simp)

theorem EncodesRow.xor32Reg (rd : Reg) (rs : Reg) : EncodesRow.Statement (.xor32Reg rd rs) :=
  word_matches ⟨0xac, rd.num, rs.num, 0, 0x0⟩ ⟨0xff, 0, 0, 0xffff, 0xffffffff⟩ ⟨0xac, 0, 0, 0x0, 0x0⟩ rfl rfl (by simp)

theorem EncodesRow.xor32Imm (rd : Reg) (imm : BitVec 32) : EncodesRow.Statement (.xor32Imm rd imm) :=
  word_matches ⟨0xa4, rd.num, 0, 0, imm⟩ ⟨0xff, 0, 15, 0xffff, 0x0⟩ ⟨0xa4, 0, 0, 0x0, 0x0⟩ rfl rfl (by simp)

theorem EncodesRow.lsh32Reg (rd : Reg) (rs : Reg) : EncodesRow.Statement (.lsh32Reg rd rs) :=
  word_matches ⟨0x6c, rd.num, rs.num, 0, 0x0⟩ ⟨0xff, 0, 0, 0xffff, 0xffffffff⟩ ⟨0x6c, 0, 0, 0x0, 0x0⟩ rfl rfl (by simp)

theorem EncodesRow.lsh32Imm (rd : Reg) (imm : BitVec 32) : EncodesRow.Statement (.lsh32Imm rd imm) :=
  word_matches ⟨0x64, rd.num, 0, 0, imm⟩ ⟨0xff, 0, 15, 0xffff, 0x0⟩ ⟨0x64, 0, 0, 0x0, 0x0⟩ rfl rfl (by simp)

theorem EncodesRow.rsh32Reg (rd : Reg) (rs : Reg) : EncodesRow.Statement (.rsh32Reg rd rs) :=
  word_matches ⟨0x7c, rd.num, rs.num, 0, 0x0⟩ ⟨0xff, 0, 0, 0xffff, 0xffffffff⟩ ⟨0x7c, 0, 0, 0x0, 0x0⟩ rfl rfl (by simp)

theorem EncodesRow.rsh32Imm (rd : Reg) (imm : BitVec 32) : EncodesRow.Statement (.rsh32Imm rd imm) :=
  word_matches ⟨0x74, rd.num, 0, 0, imm⟩ ⟨0xff, 0, 15, 0xffff, 0x0⟩ ⟨0x74, 0, 0, 0x0, 0x0⟩ rfl rfl (by simp)

theorem EncodesRow.arsh32Reg (rd : Reg) (rs : Reg) : EncodesRow.Statement (.arsh32Reg rd rs) :=
  word_matches ⟨0xcc, rd.num, rs.num, 0, 0x0⟩ ⟨0xff, 0, 0, 0xffff, 0xffffffff⟩ ⟨0xcc, 0, 0, 0x0, 0x0⟩ rfl rfl (by simp)

theorem EncodesRow.arsh32Imm (rd : Reg) (imm : BitVec 32) : EncodesRow.Statement (.arsh32Imm rd imm) :=
  word_matches ⟨0xc4, rd.num, 0, 0, imm⟩ ⟨0xff, 0, 15, 0xffff, 0x0⟩ ⟨0xc4, 0, 0, 0x0, 0x0⟩ rfl rfl (by simp)

theorem EncodesRow.neg32 (rd : Reg) : EncodesRow.Statement (.neg32 rd) :=
  word_matches ⟨0x84, rd.num, 0, 0, 0x0⟩ ⟨0xff, 0, 15, 0xffff, 0xffffffff⟩ ⟨0x84, 0, 0, 0x0, 0x0⟩ rfl rfl (by simp)

theorem EncodesRow.mov32Reg (rd : Reg) (rs : Reg) : EncodesRow.Statement (.mov32Reg rd rs) :=
  word_matches ⟨0xbc, rd.num, rs.num, 0, 0x0⟩ ⟨0xff, 0, 0, 0xffff, 0xffffffff⟩ ⟨0xbc, 0, 0, 0x0, 0x0⟩ rfl rfl (by simp)

theorem EncodesRow.mov32Imm (rd : Reg) (imm : BitVec 32) : EncodesRow.Statement (.mov32Imm rd imm) :=
  word_matches ⟨0xb4, rd.num, 0, 0, imm⟩ ⟨0xff, 0, 15, 0xffff, 0x0⟩ ⟨0xb4, 0, 0, 0x0, 0x0⟩ rfl rfl (by simp)

theorem EncodesRow.mov32s8 (rd : Reg) (rs : Reg) : EncodesRow.Statement (.mov32s8 rd rs) :=
  word_matches ⟨0xbc, rd.num, rs.num, 8, 0x0⟩ ⟨0xff, 0, 0, 0xffff, 0xffffffff⟩ ⟨0xbc, 0, 0, 0x8, 0x0⟩ rfl rfl (by simp)

theorem EncodesRow.mov32s16 (rd : Reg) (rs : Reg) : EncodesRow.Statement (.mov32s16 rd rs) :=
  word_matches ⟨0xbc, rd.num, rs.num, 16, 0x0⟩ ⟨0xff, 0, 0, 0xffff, 0xffffffff⟩ ⟨0xbc, 0, 0, 0x10, 0x0⟩ rfl rfl (by simp)

theorem EncodesRow.mov32s32 (rd : Reg) (rs : Reg) : EncodesRow.Statement (.mov32s32 rd rs) :=
  word_matches ⟨0xbc, rd.num, rs.num, 32, 0x0⟩ ⟨0xff, 0, 0, 0xffff, 0xffffffff⟩ ⟨0xbc, 0, 0, 0x20, 0x0⟩ rfl rfl (by simp)

theorem EncodesRow.endle16 (rd : Reg) : EncodesRow.Statement (.endle16 rd) :=
  word_matches ⟨0xd4, rd.num, 0, 0, 0x10⟩ ⟨0xff, 0, 15, 0xffff, 0xffffffff⟩ ⟨0xd4, 0, 0, 0x0, 0x10⟩ rfl rfl (by simp)

theorem EncodesRow.endle32 (rd : Reg) : EncodesRow.Statement (.endle32 rd) :=
  word_matches ⟨0xd4, rd.num, 0, 0, 0x20⟩ ⟨0xff, 0, 15, 0xffff, 0xffffffff⟩ ⟨0xd4, 0, 0, 0x0, 0x20⟩ rfl rfl (by simp)

theorem EncodesRow.endle64 (rd : Reg) : EncodesRow.Statement (.endle64 rd) :=
  word_matches ⟨0xd4, rd.num, 0, 0, 0x40⟩ ⟨0xff, 0, 15, 0xffff, 0xffffffff⟩ ⟨0xd4, 0, 0, 0x0, 0x40⟩ rfl rfl (by simp)

theorem EncodesRow.endbe16 (rd : Reg) : EncodesRow.Statement (.endbe16 rd) :=
  word_matches ⟨0xdc, rd.num, 0, 0, 0x10⟩ ⟨0xff, 0, 15, 0xffff, 0xffffffff⟩ ⟨0xdc, 0, 0, 0x0, 0x10⟩ rfl rfl (by simp)

theorem EncodesRow.endbe32 (rd : Reg) : EncodesRow.Statement (.endbe32 rd) :=
  word_matches ⟨0xdc, rd.num, 0, 0, 0x20⟩ ⟨0xff, 0, 15, 0xffff, 0xffffffff⟩ ⟨0xdc, 0, 0, 0x0, 0x20⟩ rfl rfl (by simp)

theorem EncodesRow.endbe64 (rd : Reg) : EncodesRow.Statement (.endbe64 rd) :=
  word_matches ⟨0xdc, rd.num, 0, 0, 0x40⟩ ⟨0xff, 0, 15, 0xffff, 0xffffffff⟩ ⟨0xdc, 0, 0, 0x0, 0x40⟩ rfl rfl (by simp)

theorem EncodesRow.bswap16 (rd : Reg) : EncodesRow.Statement (.bswap16 rd) :=
  word_matches ⟨0xd7, rd.num, 0, 0, 0x10⟩ ⟨0xff, 0, 15, 0xffff, 0xffffffff⟩ ⟨0xd7, 0, 0, 0x0, 0x10⟩ rfl rfl (by simp)

theorem EncodesRow.bswap32 (rd : Reg) : EncodesRow.Statement (.bswap32 rd) :=
  word_matches ⟨0xd7, rd.num, 0, 0, 0x20⟩ ⟨0xff, 0, 15, 0xffff, 0xffffffff⟩ ⟨0xd7, 0, 0, 0x0, 0x20⟩ rfl rfl (by simp)

theorem EncodesRow.bswap64 (rd : Reg) : EncodesRow.Statement (.bswap64 rd) :=
  word_matches ⟨0xd7, rd.num, 0, 0, 0x40⟩ ⟨0xff, 0, 15, 0xffff, 0xffffffff⟩ ⟨0xd7, 0, 0, 0x0, 0x40⟩ rfl rfl (by simp)

theorem EncodesRow.lddw (rd : Reg) (imm : BitVec 64) : EncodesRow.Statement (.lddw rd imm) :=
  word_matches ⟨0x18, rd.num, 0, 0, imm.extractLsb' 0 32⟩ ⟨0xff, 0, 15, 0xffff, 0x0⟩ ⟨0x18, 0, 0, 0x0, 0x0⟩ rfl rfl (by simp)

theorem EncodesRow.ldabsw (imm : BitVec 32) : EncodesRow.Statement (.ldabsw imm) :=
  word_matches ⟨0x20, 0, 0, 0, imm⟩ ⟨0xff, 15, 15, 0xffff, 0x0⟩ ⟨0x20, 0, 0, 0x0, 0x0⟩ rfl rfl (by simp)

theorem EncodesRow.ldabsh (imm : BitVec 32) : EncodesRow.Statement (.ldabsh imm) :=
  word_matches ⟨0x28, 0, 0, 0, imm⟩ ⟨0xff, 15, 15, 0xffff, 0x0⟩ ⟨0x28, 0, 0, 0x0, 0x0⟩ rfl rfl (by simp)

theorem EncodesRow.ldabsb (imm : BitVec 32) : EncodesRow.Statement (.ldabsb imm) :=
  word_matches ⟨0x30, 0, 0, 0, imm⟩ ⟨0xff, 15, 15, 0xffff, 0x0⟩ ⟨0x30, 0, 0, 0x0, 0x0⟩ rfl rfl (by simp)

theorem EncodesRow.ldindw (rs : Reg) (imm : BitVec 32) : EncodesRow.Statement (.ldindw rs imm) :=
  word_matches ⟨0x40, 0, rs.num, 0, imm⟩ ⟨0xff, 15, 0, 0xffff, 0x0⟩ ⟨0x40, 0, 0, 0x0, 0x0⟩ rfl rfl (by simp)

theorem EncodesRow.ldindh (rs : Reg) (imm : BitVec 32) : EncodesRow.Statement (.ldindh rs imm) :=
  word_matches ⟨0x48, 0, rs.num, 0, imm⟩ ⟨0xff, 15, 0, 0xffff, 0x0⟩ ⟨0x48, 0, 0, 0x0, 0x0⟩ rfl rfl (by simp)

theorem EncodesRow.ldindb (rs : Reg) (imm : BitVec 32) : EncodesRow.Statement (.ldindb rs imm) :=
  word_matches ⟨0x50, 0, rs.num, 0, imm⟩ ⟨0xff, 15, 0, 0xffff, 0x0⟩ ⟨0x50, 0, 0, 0x0, 0x0⟩ rfl rfl (by simp)

theorem EncodesRow.ldxdw (rd : Reg) (rs : Reg) (off : BitVec 16) : EncodesRow.Statement (.ldxdw rd rs off) :=
  word_matches ⟨0x79, rd.num, rs.num, off, 0x0⟩ ⟨0xff, 0, 0, 0x0, 0xffffffff⟩ ⟨0x79, 0, 0, 0x0, 0x0⟩ rfl rfl (by simp)

theorem EncodesRow.ldxw (rd : Reg) (rs : Reg) (off : BitVec 16) : EncodesRow.Statement (.ldxw rd rs off) :=
  word_matches ⟨0x61, rd.num, rs.num, off, 0x0⟩ ⟨0xff, 0, 0, 0x0, 0xffffffff⟩ ⟨0x61, 0, 0, 0x0, 0x0⟩ rfl rfl (by simp)

theorem EncodesRow.ldxh (rd : Reg) (rs : Reg) (off : BitVec 16) : EncodesRow.Statement (.ldxh rd rs off) :=
  word_matches ⟨0x69, rd.num, rs.num, off, 0x0⟩ ⟨0xff, 0, 0, 0x0, 0xffffffff⟩ ⟨0x69, 0, 0, 0x0, 0x0⟩ rfl rfl (by simp)

theorem EncodesRow.ldxb (rd : Reg) (rs : Reg) (off : BitVec 16) : EncodesRow.Statement (.ldxb rd rs off) :=
  word_matches ⟨0x71, rd.num, rs.num, off, 0x0⟩ ⟨0xff, 0, 0, 0x0, 0xffffffff⟩ ⟨0x71, 0, 0, 0x0, 0x0⟩ rfl rfl (by simp)

theorem EncodesRow.ldxsdw (rd : Reg) (rs : Reg) (off : BitVec 16) : EncodesRow.Statement (.ldxsdw rd rs off) :=
  word_matches ⟨0x99, rd.num, rs.num, off, 0x0⟩ ⟨0xff, 0, 0, 0x0, 0xffffffff⟩ ⟨0x99, 0, 0, 0x0, 0x0⟩ rfl rfl (by simp)

theorem EncodesRow.ldxsw (rd : Reg) (rs : Reg) (off : BitVec 16) : EncodesRow.Statement (.ldxsw rd rs off) :=
  word_matches ⟨0x81, rd.num, rs.num, off, 0x0⟩ ⟨0xff, 0, 0, 0x0, 0xffffffff⟩ ⟨0x81, 0, 0, 0x0, 0x0⟩ rfl rfl (by simp)

theorem EncodesRow.ldxsh (rd : Reg) (rs : Reg) (off : BitVec 16) : EncodesRow.Statement (.ldxsh rd rs off) :=
  word_matches ⟨0x89, rd.num, rs.num, off, 0x0⟩ ⟨0xff, 0, 0, 0x0, 0xffffffff⟩ ⟨0x89, 0, 0, 0x0, 0x0⟩ rfl rfl (by simp)

theorem EncodesRow.ldxsb (rd : Reg) (rs : Reg) (off : BitVec 16) : EncodesRow.Statement (.ldxsb rd rs off) :=
  word_matches ⟨0x91, rd.num, rs.num, off, 0x0⟩ ⟨0xff, 0, 0, 0x0, 0xffffffff⟩ ⟨0x91, 0, 0, 0x0, 0x0⟩ rfl rfl (by simp)

theorem EncodesRow.stxdw (rd : Reg) (rs : Reg) (off : BitVec 16) : EncodesRow.Statement (.stxdw rd rs off) :=
  word_matches ⟨0x7b, rd.num, rs.num, off, 0x0⟩ ⟨0xff, 0, 0, 0x0, 0xffffffff⟩ ⟨0x7b, 0, 0, 0x0, 0x0⟩ rfl rfl (by simp)

theorem EncodesRow.stxw (rd : Reg) (rs : Reg) (off : BitVec 16) : EncodesRow.Statement (.stxw rd rs off) :=
  word_matches ⟨0x63, rd.num, rs.num, off, 0x0⟩ ⟨0xff, 0, 0, 0x0, 0xffffffff⟩ ⟨0x63, 0, 0, 0x0, 0x0⟩ rfl rfl (by simp)

theorem EncodesRow.stxh (rd : Reg) (rs : Reg) (off : BitVec 16) : EncodesRow.Statement (.stxh rd rs off) :=
  word_matches ⟨0x6b, rd.num, rs.num, off, 0x0⟩ ⟨0xff, 0, 0, 0x0, 0xffffffff⟩ ⟨0x6b, 0, 0, 0x0, 0x0⟩ rfl rfl (by simp)

theorem EncodesRow.stxb (rd : Reg) (rs : Reg) (off : BitVec 16) : EncodesRow.Statement (.stxb rd rs off) :=
  word_matches ⟨0x73, rd.num, rs.num, off, 0x0⟩ ⟨0xff, 0, 0, 0x0, 0xffffffff⟩ ⟨0x73, 0, 0, 0x0, 0x0⟩ rfl rfl (by simp)

theorem EncodesRow.stdw (rd : Reg) (off : BitVec 16) (imm : BitVec 32) : EncodesRow.Statement (.stdw rd off imm) :=
  word_matches ⟨0x7a, rd.num, 0, off, imm⟩ ⟨0xff, 0, 15, 0x0, 0x0⟩ ⟨0x7a, 0, 0, 0x0, 0x0⟩ rfl rfl (by simp)

theorem EncodesRow.stw (rd : Reg) (off : BitVec 16) (imm : BitVec 32) : EncodesRow.Statement (.stw rd off imm) :=
  word_matches ⟨0x62, rd.num, 0, off, imm⟩ ⟨0xff, 0, 15, 0x0, 0x0⟩ ⟨0x62, 0, 0, 0x0, 0x0⟩ rfl rfl (by simp)

theorem EncodesRow.sth (rd : Reg) (off : BitVec 16) (imm : BitVec 32) : EncodesRow.Statement (.sth rd off imm) :=
  word_matches ⟨0x6a, rd.num, 0, off, imm⟩ ⟨0xff, 0, 15, 0x0, 0x0⟩ ⟨0x6a, 0, 0, 0x0, 0x0⟩ rfl rfl (by simp)

theorem EncodesRow.stb (rd : Reg) (off : BitVec 16) (imm : BitVec 32) : EncodesRow.Statement (.stb rd off imm) :=
  word_matches ⟨0x72, rd.num, 0, off, imm⟩ ⟨0xff, 0, 15, 0x0, 0x0⟩ ⟨0x72, 0, 0, 0x0, 0x0⟩ rfl rfl (by simp)

theorem EncodesRow.ja (disp : BitVec 16) : EncodesRow.Statement (.ja disp) :=
  word_matches ⟨0x5, 0, 0, disp, 0x0⟩ ⟨0xff, 15, 15, 0x0, 0xffffffff⟩ ⟨0x5, 0, 0, 0x0, 0x0⟩ rfl rfl (by simp)

theorem EncodesRow.jal (disp : BitVec 32) : EncodesRow.Statement (.jal disp) :=
  word_matches ⟨0x6, 0, 0, 0, disp⟩ ⟨0xff, 15, 15, 0xffff, 0x0⟩ ⟨0x6, 0, 0, 0x0, 0x0⟩ rfl rfl (by simp)

theorem EncodesRow.jeqReg (rd : Reg) (rs : Reg) (disp : BitVec 16) : EncodesRow.Statement (.jeqReg rd rs disp) :=
  word_matches ⟨0x1d, rd.num, rs.num, disp, 0x0⟩ ⟨0xff, 0, 0, 0x0, 0xffffffff⟩ ⟨0x1d, 0, 0, 0x0, 0x0⟩ rfl rfl (by simp)

theorem EncodesRow.jeqImm (rd : Reg) (imm : BitVec 32) (disp : BitVec 16) : EncodesRow.Statement (.jeqImm rd imm disp) :=
  word_matches ⟨0x15, rd.num, 0, disp, imm⟩ ⟨0xff, 0, 15, 0x0, 0x0⟩ ⟨0x15, 0, 0, 0x0, 0x0⟩ rfl rfl (by simp)

theorem EncodesRow.jgtReg (rd : Reg) (rs : Reg) (disp : BitVec 16) : EncodesRow.Statement (.jgtReg rd rs disp) :=
  word_matches ⟨0x2d, rd.num, rs.num, disp, 0x0⟩ ⟨0xff, 0, 0, 0x0, 0xffffffff⟩ ⟨0x2d, 0, 0, 0x0, 0x0⟩ rfl rfl (by simp)

theorem EncodesRow.jgtImm (rd : Reg) (imm : BitVec 32) (disp : BitVec 16) : EncodesRow.Statement (.jgtImm rd imm disp) :=
  word_matches ⟨0x25, rd.num, 0, disp, imm⟩ ⟨0xff, 0, 15, 0x0, 0x0⟩ ⟨0x25, 0, 0, 0x0, 0x0⟩ rfl rfl (by simp)

theorem EncodesRow.jgeReg (rd : Reg) (rs : Reg) (disp : BitVec 16) : EncodesRow.Statement (.jgeReg rd rs disp) :=
  word_matches ⟨0x3d, rd.num, rs.num, disp, 0x0⟩ ⟨0xff, 0, 0, 0x0, 0xffffffff⟩ ⟨0x3d, 0, 0, 0x0, 0x0⟩ rfl rfl (by simp)

theorem EncodesRow.jgeImm (rd : Reg) (imm : BitVec 32) (disp : BitVec 16) : EncodesRow.Statement (.jgeImm rd imm disp) :=
  word_matches ⟨0x35, rd.num, 0, disp, imm⟩ ⟨0xff, 0, 15, 0x0, 0x0⟩ ⟨0x35, 0, 0, 0x0, 0x0⟩ rfl rfl (by simp)

theorem EncodesRow.jltReg (rd : Reg) (rs : Reg) (disp : BitVec 16) : EncodesRow.Statement (.jltReg rd rs disp) :=
  word_matches ⟨0xad, rd.num, rs.num, disp, 0x0⟩ ⟨0xff, 0, 0, 0x0, 0xffffffff⟩ ⟨0xad, 0, 0, 0x0, 0x0⟩ rfl rfl (by simp)

theorem EncodesRow.jltImm (rd : Reg) (imm : BitVec 32) (disp : BitVec 16) : EncodesRow.Statement (.jltImm rd imm disp) :=
  word_matches ⟨0xa5, rd.num, 0, disp, imm⟩ ⟨0xff, 0, 15, 0x0, 0x0⟩ ⟨0xa5, 0, 0, 0x0, 0x0⟩ rfl rfl (by simp)

theorem EncodesRow.jleReg (rd : Reg) (rs : Reg) (disp : BitVec 16) : EncodesRow.Statement (.jleReg rd rs disp) :=
  word_matches ⟨0xbd, rd.num, rs.num, disp, 0x0⟩ ⟨0xff, 0, 0, 0x0, 0xffffffff⟩ ⟨0xbd, 0, 0, 0x0, 0x0⟩ rfl rfl (by simp)

theorem EncodesRow.jleImm (rd : Reg) (imm : BitVec 32) (disp : BitVec 16) : EncodesRow.Statement (.jleImm rd imm disp) :=
  word_matches ⟨0xb5, rd.num, 0, disp, imm⟩ ⟨0xff, 0, 15, 0x0, 0x0⟩ ⟨0xb5, 0, 0, 0x0, 0x0⟩ rfl rfl (by simp)

theorem EncodesRow.jsetReg (rd : Reg) (rs : Reg) (disp : BitVec 16) : EncodesRow.Statement (.jsetReg rd rs disp) :=
  word_matches ⟨0x4d, rd.num, rs.num, disp, 0x0⟩ ⟨0xff, 0, 0, 0x0, 0xffffffff⟩ ⟨0x4d, 0, 0, 0x0, 0x0⟩ rfl rfl (by simp)

theorem EncodesRow.jsetImm (rd : Reg) (imm : BitVec 32) (disp : BitVec 16) : EncodesRow.Statement (.jsetImm rd imm disp) :=
  word_matches ⟨0x45, rd.num, 0, disp, imm⟩ ⟨0xff, 0, 15, 0x0, 0x0⟩ ⟨0x45, 0, 0, 0x0, 0x0⟩ rfl rfl (by simp)

theorem EncodesRow.jneReg (rd : Reg) (rs : Reg) (disp : BitVec 16) : EncodesRow.Statement (.jneReg rd rs disp) :=
  word_matches ⟨0x5d, rd.num, rs.num, disp, 0x0⟩ ⟨0xff, 0, 0, 0x0, 0xffffffff⟩ ⟨0x5d, 0, 0, 0x0, 0x0⟩ rfl rfl (by simp)

theorem EncodesRow.jneImm (rd : Reg) (imm : BitVec 32) (disp : BitVec 16) : EncodesRow.Statement (.jneImm rd imm disp) :=
  word_matches ⟨0x55, rd.num, 0, disp, imm⟩ ⟨0xff, 0, 15, 0x0, 0x0⟩ ⟨0x55, 0, 0, 0x0, 0x0⟩ rfl rfl (by simp)

theorem EncodesRow.jsgtReg (rd : Reg) (rs : Reg) (disp : BitVec 16) : EncodesRow.Statement (.jsgtReg rd rs disp) :=
  word_matches ⟨0x6d, rd.num, rs.num, disp, 0x0⟩ ⟨0xff, 0, 0, 0x0, 0xffffffff⟩ ⟨0x6d, 0, 0, 0x0, 0x0⟩ rfl rfl (by simp)

theorem EncodesRow.jsgtImm (rd : Reg) (imm : BitVec 32) (disp : BitVec 16) : EncodesRow.Statement (.jsgtImm rd imm disp) :=
  word_matches ⟨0x65, rd.num, 0, disp, imm⟩ ⟨0xff, 0, 15, 0x0, 0x0⟩ ⟨0x65, 0, 0, 0x0, 0x0⟩ rfl rfl (by simp)

theorem EncodesRow.jsgeReg (rd : Reg) (rs : Reg) (disp : BitVec 16) : EncodesRow.Statement (.jsgeReg rd rs disp) :=
  word_matches ⟨0x7d, rd.num, rs.num, disp, 0x0⟩ ⟨0xff, 0, 0, 0x0, 0xffffffff⟩ ⟨0x7d, 0, 0, 0x0, 0x0⟩ rfl rfl (by simp)

theorem EncodesRow.jsgeImm (rd : Reg) (imm : BitVec 32) (disp : BitVec 16) : EncodesRow.Statement (.jsgeImm rd imm disp) :=
  word_matches ⟨0x75, rd.num, 0, disp, imm⟩ ⟨0xff, 0, 15, 0x0, 0x0⟩ ⟨0x75, 0, 0, 0x0, 0x0⟩ rfl rfl (by simp)

theorem EncodesRow.jsltReg (rd : Reg) (rs : Reg) (disp : BitVec 16) : EncodesRow.Statement (.jsltReg rd rs disp) :=
  word_matches ⟨0xcd, rd.num, rs.num, disp, 0x0⟩ ⟨0xff, 0, 0, 0x0, 0xffffffff⟩ ⟨0xcd, 0, 0, 0x0, 0x0⟩ rfl rfl (by simp)

theorem EncodesRow.jsltImm (rd : Reg) (imm : BitVec 32) (disp : BitVec 16) : EncodesRow.Statement (.jsltImm rd imm disp) :=
  word_matches ⟨0xc5, rd.num, 0, disp, imm⟩ ⟨0xff, 0, 15, 0x0, 0x0⟩ ⟨0xc5, 0, 0, 0x0, 0x0⟩ rfl rfl (by simp)

theorem EncodesRow.jsleReg (rd : Reg) (rs : Reg) (disp : BitVec 16) : EncodesRow.Statement (.jsleReg rd rs disp) :=
  word_matches ⟨0xdd, rd.num, rs.num, disp, 0x0⟩ ⟨0xff, 0, 0, 0x0, 0xffffffff⟩ ⟨0xdd, 0, 0, 0x0, 0x0⟩ rfl rfl (by simp)

theorem EncodesRow.jsleImm (rd : Reg) (imm : BitVec 32) (disp : BitVec 16) : EncodesRow.Statement (.jsleImm rd imm disp) :=
  word_matches ⟨0xd5, rd.num, 0, disp, imm⟩ ⟨0xff, 0, 15, 0x0, 0x0⟩ ⟨0xd5, 0, 0, 0x0, 0x0⟩ rfl rfl (by simp)

theorem EncodesRow.callLocal (disp : BitVec 32) : EncodesRow.Statement (.callLocal disp) :=
  word_matches ⟨0x85, 0, 1, 0, disp⟩ ⟨0xff, 15, 15, 0xffff, 0x0⟩ ⟨0x85, 0, 1, 0x0, 0x0⟩ rfl rfl (by simp)

theorem EncodesRow.callHelper (id : BitVec 32) : EncodesRow.Statement (.callHelper id) :=
  word_matches ⟨0x85, 0, 0, 0, id⟩ ⟨0xff, 15, 15, 0xffff, 0x0⟩ ⟨0x85, 0, 0, 0x0, 0x0⟩ rfl rfl (by simp)

theorem EncodesRow.exit : EncodesRow.Statement (.exit) :=
  word_matches ⟨0x95, 0, 0, 0, 0x0⟩ ⟨0xff, 15, 15, 0xffff, 0xffffffff⟩ ⟨0x95, 0, 0, 0x0, 0x0⟩ rfl rfl (by simp)

theorem EncodesRow.jeq32Reg (rd : Reg) (rs : Reg) (disp : BitVec 16) : EncodesRow.Statement (.jeq32Reg rd rs disp) :=
  word_matches ⟨0x1e, rd.num, rs.num, disp, 0x0⟩ ⟨0xff, 0, 0, 0x0, 0xffffffff⟩ ⟨0x1e, 0, 0, 0x0, 0x0⟩ rfl rfl (by simp)

theorem EncodesRow.jeq32Imm (rd : Reg) (imm : BitVec 32) (disp : BitVec 16) : EncodesRow.Statement (.jeq32Imm rd imm disp) :=
  word_matches ⟨0x16, rd.num, 0, disp, imm⟩ ⟨0xff, 0, 15, 0x0, 0x0⟩ ⟨0x16, 0, 0, 0x0, 0x0⟩ rfl rfl (by simp)

theorem EncodesRow.jgt32Reg (rd : Reg) (rs : Reg) (disp : BitVec 16) : EncodesRow.Statement (.jgt32Reg rd rs disp) :=
  word_matches ⟨0x2e, rd.num, rs.num, disp, 0x0⟩ ⟨0xff, 0, 0, 0x0, 0xffffffff⟩ ⟨0x2e, 0, 0, 0x0, 0x0⟩ rfl rfl (by simp)

theorem EncodesRow.jgt32Imm (rd : Reg) (imm : BitVec 32) (disp : BitVec 16) : EncodesRow.Statement (.jgt32Imm rd imm disp) :=
  word_matches ⟨0x26, rd.num, 0, disp, imm⟩ ⟨0xff, 0, 15, 0x0, 0x0⟩ ⟨0x26, 0, 0, 0x0, 0x0⟩ rfl rfl (by simp)

theorem EncodesRow.jge32Reg (rd : Reg) (rs : Reg) (disp : BitVec 16) : EncodesRow.Statement (.jge32Reg rd rs disp) :=
  word_matches ⟨0x3e, rd.num, rs.num, disp, 0x0⟩ ⟨0xff, 0, 0, 0x0, 0xffffffff⟩ ⟨0x3e, 0, 0, 0x0, 0x0⟩ rfl rfl (by simp)

theorem EncodesRow.jge32Imm (rd : Reg) (imm : BitVec 32) (disp : BitVec 16) : EncodesRow.Statement (.jge32Imm rd imm disp) :=
  word_matches ⟨0x36, rd.num, 0, disp, imm⟩ ⟨0xff, 0, 15, 0x0, 0x0⟩ ⟨0x36, 0, 0, 0x0, 0x0⟩ rfl rfl (by simp)

theorem EncodesRow.jlt32Reg (rd : Reg) (rs : Reg) (disp : BitVec 16) : EncodesRow.Statement (.jlt32Reg rd rs disp) :=
  word_matches ⟨0xae, rd.num, rs.num, disp, 0x0⟩ ⟨0xff, 0, 0, 0x0, 0xffffffff⟩ ⟨0xae, 0, 0, 0x0, 0x0⟩ rfl rfl (by simp)

theorem EncodesRow.jlt32Imm (rd : Reg) (imm : BitVec 32) (disp : BitVec 16) : EncodesRow.Statement (.jlt32Imm rd imm disp) :=
  word_matches ⟨0xa6, rd.num, 0, disp, imm⟩ ⟨0xff, 0, 15, 0x0, 0x0⟩ ⟨0xa6, 0, 0, 0x0, 0x0⟩ rfl rfl (by simp)

theorem EncodesRow.jle32Reg (rd : Reg) (rs : Reg) (disp : BitVec 16) : EncodesRow.Statement (.jle32Reg rd rs disp) :=
  word_matches ⟨0xbe, rd.num, rs.num, disp, 0x0⟩ ⟨0xff, 0, 0, 0x0, 0xffffffff⟩ ⟨0xbe, 0, 0, 0x0, 0x0⟩ rfl rfl (by simp)

theorem EncodesRow.jle32Imm (rd : Reg) (imm : BitVec 32) (disp : BitVec 16) : EncodesRow.Statement (.jle32Imm rd imm disp) :=
  word_matches ⟨0xb6, rd.num, 0, disp, imm⟩ ⟨0xff, 0, 15, 0x0, 0x0⟩ ⟨0xb6, 0, 0, 0x0, 0x0⟩ rfl rfl (by simp)

theorem EncodesRow.jset32Reg (rd : Reg) (rs : Reg) (disp : BitVec 16) : EncodesRow.Statement (.jset32Reg rd rs disp) :=
  word_matches ⟨0x4e, rd.num, rs.num, disp, 0x0⟩ ⟨0xff, 0, 0, 0x0, 0xffffffff⟩ ⟨0x4e, 0, 0, 0x0, 0x0⟩ rfl rfl (by simp)

theorem EncodesRow.jset32Imm (rd : Reg) (imm : BitVec 32) (disp : BitVec 16) : EncodesRow.Statement (.jset32Imm rd imm disp) :=
  word_matches ⟨0x46, rd.num, 0, disp, imm⟩ ⟨0xff, 0, 15, 0x0, 0x0⟩ ⟨0x46, 0, 0, 0x0, 0x0⟩ rfl rfl (by simp)

theorem EncodesRow.jne32Reg (rd : Reg) (rs : Reg) (disp : BitVec 16) : EncodesRow.Statement (.jne32Reg rd rs disp) :=
  word_matches ⟨0x5e, rd.num, rs.num, disp, 0x0⟩ ⟨0xff, 0, 0, 0x0, 0xffffffff⟩ ⟨0x5e, 0, 0, 0x0, 0x0⟩ rfl rfl (by simp)

theorem EncodesRow.jne32Imm (rd : Reg) (imm : BitVec 32) (disp : BitVec 16) : EncodesRow.Statement (.jne32Imm rd imm disp) :=
  word_matches ⟨0x56, rd.num, 0, disp, imm⟩ ⟨0xff, 0, 15, 0x0, 0x0⟩ ⟨0x56, 0, 0, 0x0, 0x0⟩ rfl rfl (by simp)

theorem EncodesRow.jsgt32Reg (rd : Reg) (rs : Reg) (disp : BitVec 16) : EncodesRow.Statement (.jsgt32Reg rd rs disp) :=
  word_matches ⟨0x6e, rd.num, rs.num, disp, 0x0⟩ ⟨0xff, 0, 0, 0x0, 0xffffffff⟩ ⟨0x6e, 0, 0, 0x0, 0x0⟩ rfl rfl (by simp)

theorem EncodesRow.jsgt32Imm (rd : Reg) (imm : BitVec 32) (disp : BitVec 16) : EncodesRow.Statement (.jsgt32Imm rd imm disp) :=
  word_matches ⟨0x66, rd.num, 0, disp, imm⟩ ⟨0xff, 0, 15, 0x0, 0x0⟩ ⟨0x66, 0, 0, 0x0, 0x0⟩ rfl rfl (by simp)

theorem EncodesRow.jsge32Reg (rd : Reg) (rs : Reg) (disp : BitVec 16) : EncodesRow.Statement (.jsge32Reg rd rs disp) :=
  word_matches ⟨0x7e, rd.num, rs.num, disp, 0x0⟩ ⟨0xff, 0, 0, 0x0, 0xffffffff⟩ ⟨0x7e, 0, 0, 0x0, 0x0⟩ rfl rfl (by simp)

theorem EncodesRow.jsge32Imm (rd : Reg) (imm : BitVec 32) (disp : BitVec 16) : EncodesRow.Statement (.jsge32Imm rd imm disp) :=
  word_matches ⟨0x76, rd.num, 0, disp, imm⟩ ⟨0xff, 0, 15, 0x0, 0x0⟩ ⟨0x76, 0, 0, 0x0, 0x0⟩ rfl rfl (by simp)

theorem EncodesRow.jslt32Reg (rd : Reg) (rs : Reg) (disp : BitVec 16) : EncodesRow.Statement (.jslt32Reg rd rs disp) :=
  word_matches ⟨0xce, rd.num, rs.num, disp, 0x0⟩ ⟨0xff, 0, 0, 0x0, 0xffffffff⟩ ⟨0xce, 0, 0, 0x0, 0x0⟩ rfl rfl (by simp)

theorem EncodesRow.jslt32Imm (rd : Reg) (imm : BitVec 32) (disp : BitVec 16) : EncodesRow.Statement (.jslt32Imm rd imm disp) :=
  word_matches ⟨0xc6, rd.num, 0, disp, imm⟩ ⟨0xff, 0, 15, 0x0, 0x0⟩ ⟨0xc6, 0, 0, 0x0, 0x0⟩ rfl rfl (by simp)

theorem EncodesRow.jsle32Reg (rd : Reg) (rs : Reg) (disp : BitVec 16) : EncodesRow.Statement (.jsle32Reg rd rs disp) :=
  word_matches ⟨0xde, rd.num, rs.num, disp, 0x0⟩ ⟨0xff, 0, 0, 0x0, 0xffffffff⟩ ⟨0xde, 0, 0, 0x0, 0x0⟩ rfl rfl (by simp)

theorem EncodesRow.jsle32Imm (rd : Reg) (imm : BitVec 32) (disp : BitVec 16) : EncodesRow.Statement (.jsle32Imm rd imm disp) :=
  word_matches ⟨0xd6, rd.num, 0, disp, imm⟩ ⟨0xff, 0, 15, 0x0, 0x0⟩ ⟨0xd6, 0, 0, 0x0, 0x0⟩ rfl rfl (by simp)

theorem EncodesRow.acmp (rd : Reg) (rs : Reg) (off : BitVec 16) : EncodesRow.Statement (.acmp rd rs off) :=
  word_matches ⟨0xdb, rd.num, rs.num, off, 0xf1⟩ ⟨0xff, 0, 0, 0x0, 0xffffffff⟩ ⟨0xdb, 0, 0, 0x0, 0xf1⟩ rfl rfl (by simp)

theorem EncodesRow.axchg (rd : Reg) (rs : Reg) (off : BitVec 16) : EncodesRow.Statement (.axchg rd rs off) :=
  word_matches ⟨0xdb, rd.num, rs.num, off, 0xe1⟩ ⟨0xff, 0, 0, 0x0, 0xffffffff⟩ ⟨0xdb, 0, 0, 0x0, 0xe1⟩ rfl rfl (by simp)

theorem EncodesRow.aadd (rd : Reg) (rs : Reg) (off : BitVec 16) : EncodesRow.Statement (.aadd rd rs off) :=
  word_matches ⟨0xdb, rd.num, rs.num, off, 0x0⟩ ⟨0xff, 0, 0, 0x0, 0xffffffff⟩ ⟨0xdb, 0, 0, 0x0, 0x0⟩ rfl rfl (by simp)

theorem EncodesRow.aor (rd : Reg) (rs : Reg) (off : BitVec 16) : EncodesRow.Statement (.aor rd rs off) :=
  word_matches ⟨0xdb, rd.num, rs.num, off, 0x40⟩ ⟨0xff, 0, 0, 0x0, 0xffffffff⟩ ⟨0xdb, 0, 0, 0x0, 0x40⟩ rfl rfl (by simp)

theorem EncodesRow.aand (rd : Reg) (rs : Reg) (off : BitVec 16) : EncodesRow.Statement (.aand rd rs off) :=
  word_matches ⟨0xdb, rd.num, rs.num, off, 0x50⟩ ⟨0xff, 0, 0, 0x0, 0xffffffff⟩ ⟨0xdb, 0, 0, 0x0, 0x50⟩ rfl rfl (by simp)

theorem EncodesRow.axor (rd : Reg) (rs : Reg) (off : BitVec 16) : EncodesRow.Statement (.axor rd rs off) :=
  word_matches ⟨0xdb, rd.num, rs.num, off, 0xa0⟩ ⟨0xff, 0, 0, 0x0, 0xffffffff⟩ ⟨0xdb, 0, 0, 0x0, 0xa0⟩ rfl rfl (by simp)

theorem EncodesRow.afadd (rd : Reg) (rs : Reg) (off : BitVec 16) : EncodesRow.Statement (.afadd rd rs off) :=
  word_matches ⟨0xdb, rd.num, rs.num, off, 0x1⟩ ⟨0xff, 0, 0, 0x0, 0xffffffff⟩ ⟨0xdb, 0, 0, 0x0, 0x1⟩ rfl rfl (by simp)

theorem EncodesRow.afor (rd : Reg) (rs : Reg) (off : BitVec 16) : EncodesRow.Statement (.afor rd rs off) :=
  word_matches ⟨0xdb, rd.num, rs.num, off, 0x41⟩ ⟨0xff, 0, 0, 0x0, 0xffffffff⟩ ⟨0xdb, 0, 0, 0x0, 0x41⟩ rfl rfl (by simp)

theorem EncodesRow.afand (rd : Reg) (rs : Reg) (off : BitVec 16) : EncodesRow.Statement (.afand rd rs off) :=
  word_matches ⟨0xdb, rd.num, rs.num, off, 0x51⟩ ⟨0xff, 0, 0, 0x0, 0xffffffff⟩ ⟨0xdb, 0, 0, 0x0, 0x51⟩ rfl rfl (by simp)

theorem EncodesRow.afxor (rd : Reg) (rs : Reg) (off : BitVec 16) : EncodesRow.Statement (.afxor rd rs off) :=
  word_matches ⟨0xdb, rd.num, rs.num, off, 0xa1⟩ ⟨0xff, 0, 0, 0x0, 0xffffffff⟩ ⟨0xdb, 0, 0, 0x0, 0xa1⟩ rfl rfl (by simp)

theorem EncodesRow.acmp32 (rd : Reg) (rs : Reg) (off : BitVec 16) : EncodesRow.Statement (.acmp32 rd rs off) :=
  word_matches ⟨0xc3, rd.num, rs.num, off, 0xf1⟩ ⟨0xff, 0, 0, 0x0, 0xffffffff⟩ ⟨0xc3, 0, 0, 0x0, 0xf1⟩ rfl rfl (by simp)

theorem EncodesRow.axchg32 (rd : Reg) (rs : Reg) (off : BitVec 16) : EncodesRow.Statement (.axchg32 rd rs off) :=
  word_matches ⟨0xc3, rd.num, rs.num, off, 0xe1⟩ ⟨0xff, 0, 0, 0x0, 0xffffffff⟩ ⟨0xc3, 0, 0, 0x0, 0xe1⟩ rfl rfl (by simp)

theorem EncodesRow.aadd32 (rd : Reg) (rs : Reg) (off : BitVec 16) : EncodesRow.Statement (.aadd32 rd rs off) :=
  word_matches ⟨0xc3, rd.num, rs.num, off, 0x0⟩ ⟨0xff, 0, 0, 0x0, 0xffffffff⟩ ⟨0xc3, 0, 0, 0x0, 0x0⟩ rfl rfl (by simp)

theorem EncodesRow.aor32 (rd : Reg) (rs : Reg) (off : BitVec 16) : EncodesRow.Statement (.aor32 rd rs off) :=
  word_matches ⟨0xc3, rd.num, rs.num, off, 0x40⟩ ⟨0xff, 0, 0, 0x0, 0xffffffff⟩ ⟨0xc3, 0, 0, 0x0, 0x40⟩ rfl rfl (by simp)

theorem EncodesRow.aand32 (rd : Reg) (rs : Reg) (off : BitVec 16) : EncodesRow.Statement (.aand32 rd rs off) :=
  word_matches ⟨0xc3, rd.num, rs.num, off, 0x50⟩ ⟨0xff, 0, 0, 0x0, 0xffffffff⟩ ⟨0xc3, 0, 0, 0x0, 0x50⟩ rfl rfl (by simp)

theorem EncodesRow.axor32 (rd : Reg) (rs : Reg) (off : BitVec 16) : EncodesRow.Statement (.axor32 rd rs off) :=
  word_matches ⟨0xc3, rd.num, rs.num, off, 0xa0⟩ ⟨0xff, 0, 0, 0x0, 0xffffffff⟩ ⟨0xc3, 0, 0, 0x0, 0xa0⟩ rfl rfl (by simp)

theorem EncodesRow.afadd32 (rd : Reg) (rs : Reg) (off : BitVec 16) : EncodesRow.Statement (.afadd32 rd rs off) :=
  word_matches ⟨0xc3, rd.num, rs.num, off, 0x1⟩ ⟨0xff, 0, 0, 0x0, 0xffffffff⟩ ⟨0xc3, 0, 0, 0x0, 0x1⟩ rfl rfl (by simp)

theorem EncodesRow.afor32 (rd : Reg) (rs : Reg) (off : BitVec 16) : EncodesRow.Statement (.afor32 rd rs off) :=
  word_matches ⟨0xc3, rd.num, rs.num, off, 0x41⟩ ⟨0xff, 0, 0, 0x0, 0xffffffff⟩ ⟨0xc3, 0, 0, 0x0, 0x41⟩ rfl rfl (by simp)

theorem EncodesRow.afand32 (rd : Reg) (rs : Reg) (off : BitVec 16) : EncodesRow.Statement (.afand32 rd rs off) :=
  word_matches ⟨0xc3, rd.num, rs.num, off, 0x51⟩ ⟨0xff, 0, 0, 0x0, 0xffffffff⟩ ⟨0xc3, 0, 0, 0x0, 0x51⟩ rfl rfl (by simp)

theorem EncodesRow.afxor32 (rd : Reg) (rs : Reg) (off : BitVec 16) : EncodesRow.Statement (.afxor32 rd rs off) :=
  word_matches ⟨0xc3, rd.num, rs.num, off, 0xa1⟩ ⟨0xff, 0, 0, 0x0, 0xffffffff⟩ ⟨0xc3, 0, 0, 0x0, 0xa1⟩ rfl rfl (by simp)

end Sys2Proof.Laws
end

