-- ==== Sys2Proof/Tests/Slice0.lean ====
section
/-! SUPPORT. The model's own tests. The bytes and the results are those of the `Example` line of each instruction's rule in
spec/40 to spec/49, read from the assembly text there, not from the model; the last part shows, for each statement with
hypotheses, a concrete state that meets them. -/

namespace Sys2Proof.Tests
open Sys2Proof.Machine

/-! ### Helpers -/

/-- A slot from its 8 bytes in address order, written as one number. -/
def slot (n : Nat) : Slot :=
  ⟨BitVec.ofNat 8 (n / 2 ^ 56), BitVec.ofNat 8 (n / 2 ^ 48), BitVec.ofNat 8 (n / 2 ^ 40), BitVec.ofNat 8 (n / 2 ^ 32),
   BitVec.ofNat 8 (n / 2 ^ 24), BitVec.ofNat 8 (n / 2 ^ 16), BitVec.ofNat 8 (n / 2 ^ 8), BitVec.ofNat 8 n⟩

/-- Slots decode to an instruction of version 4. -/
def reads (e : Endian) (ns : List Nat) (i : Instr) : Bool :=
  match decodeSlots 4 e (ns.map slot) with
  | .ok j => decide (j = i)
  | .error _ => false

/-- The little-endian bytes and the big-endian bytes decode to the instruction, and it encodes to them. -/
def readsBoth (row : List Nat × List Nat × Instr) : Bool :=
  reads .little row.1 row.2.2 && reads .big row.2.1 row.2.2 &&
    decide (encodeSlots .little row.2.2 = row.1.map slot) && decide (encodeSlots .big row.2.2 = row.2.1.map slot)

/-- The helper of the spec's examples: first argument plus second argument, memory unchanged. -/
def sumHelper : HelperRel := .terms (.op .add (.arg 0 (.choice 0)) (.arg 1 (.choice 1))) []

/-- The launch state of the spec's test vectors, under `UNINIT = fault`, with a program of little-endian slots. -/
def start (ns : List Nat) : State :=
  State.launch { resetParams with
    prog := ns.map slot, uninit := .fault, helpers := [(7, sumHelper)]
    packet := [0x10, 0x11, 0x12, 0x13, 0x14, 0x15, 0x16, 0x17, 0x18, 0x19, 0x1A, 0x1B, 0x1C, 0x1D, 0x1E, 0x1F] } []

/-- The same on a machine of the other byte order. -/
def startIn (e : Endian) : State := { start [] with params := { (start []).params with endian := e } }

/-- The same with r0, r1, r2 and r6 holding these. -/
def withRegs (s : State) (r0 r1 r2 r6 : Option Word) : State :=
  { s with regs := { s.regs with r0 := r0, r1 := r1, r2 := r2, r6 := r6 } }

/-- A check of the next state of an instruction. -/
def after (i : Instr) (s : State) (p : State → Bool) : Bool :=
  match exec i s with
  | .next t => p t
  | _ => false

/-- The machine still runs, at the next slot, with memory as it was. -/
def goesOn (s t : State) : Bool := decide (t.status = .running) && decide (t.pc = s.pc + 1) && decide (t.mem = s.mem)

/-- A row: instruction, r1 and r2 before, r1 after. -/
def alu (row : Instr × Option Word × Option Word × Word) : Bool :=
  let s := withRegs (start []) none row.2.1 row.2.2.1 none
  after row.1 s fun t => goesOn s t && decide (t.regs.r1 = some row.2.2.2)

/-- A row: instruction, r1 after on a little-endian and on a big-endian machine, from r1 = 0x1122334455667788. -/
def order (row : Instr × Word × Word) : Bool :=
  let f := fun e v => let s := withRegs (startIn e) none (some 0x1122334455667788) none none
    after row.1 s fun t => goesOn s t && decide (t.regs.r1 = some v)
  f .little row.2.1 && f .big row.2.2

/-- A row: instruction, r1 and r2 before, pc after, from pc = 0. -/
def jumpRow (row : Instr × Word × Word × Int) : Bool :=
  after row.1 (withRegs (start []) none (some row.2.1) (some row.2.2.1) none) fun t => decide (t.pc = row.2.2.2)

/-- A row: instruction, r1 after on a little-endian and on a big-endian machine, with these bytes at 0xFFF8. -/
def loadRow (row : Instr × Word × Word) : Bool :=
  let f := fun e v => let s := { startIn e with
      mem := Memory.setBytes [] 0xFFF8 [0x88, 0x97, 0xA6, 0xB5, 0xC4, 0xD3, 0xE2, 0xF1] }
    after row.1 s fun t => goesOn s t && decide (t.regs.r1 = some v)
  f .little row.2.1 && f .big row.2.2

/-- A row: instruction, bytes at 0xFFF8 after on a little-endian and on a big-endian machine. -/
def storeRow (row : Instr × List Byte × List Byte) : Bool :=
  let f := fun e bs => let s := withRegs (startIn e) none (some 0x1122334455667788) none none
    after row.1 s fun t => goesOn { s with mem := Memory.setBytes [] 0xFFF8 bs } t && decide (t.regs = s.regs)
  f .little row.2.1 && f .big row.2.2

/-- A row: instruction, r0 and r2 and the n-byte memory value at 0xFFF8 before, memory, r0 and r2 after. -/
def atomicRow (n : Nat) (row : Instr × Word × Word × Nat × Nat × Word × Word) : Bool :=
  let f := fun e => let s0 := withRegs (startIn e) (some row.2.1) (some 0xFFF8) (some row.2.2.1) none
    let s := s0.storeAt 0xFFF8 n (BitVec.ofNat _ row.2.2.2.1)
    after row.1 s fun t => goesOn (s0.storeAt 0xFFF8 n (BitVec.ofNat _ row.2.2.2.2.1)) t &&
      decide (t.regs.r0 = some row.2.2.2.2.2.1) && decide (t.regs.r2 = some row.2.2.2.2.2.2) &&
      decide (t.regs.r1 = some 0xFFF8)
  f .little && f .big

/-- A row: packet load, r0 after, from r6 = CTX and r2 = 0xFFFFFFFF00000004; r1 to r5 lose their values. -/
def packetRow (row : Instr × Word) : Bool :=
  let s := withRegs (start []) none (some 1) (some 0xFFFFFFFF00000004) (some 0x20000)
  after row.1 s fun t => goesOn s t && decide (t.regs = { s.regs with r0 := some row.2, r1 := none, r2 := none })

/-! ### Encodings, each in both byte orders -/

/-- The encodings of the examples of spec/40_alu64.md. -/
theorem test_decode_alu64 : ([
    ([0x0f21000000000000], [0x0f12000000000000], .addReg .r1 .r2),
    ([0x07010000ffffffff], [0x07100000ffffffff], .addImm .r1 (-1)),
    ([0x1f21000000000000], [0x1f12000000000000], .subReg .r1 .r2),
    ([0x1701000007000000], [0x1710000000000007], .subImm .r1 7),
    ([0x2f21000000000000], [0x2f12000000000000], .mulReg .r1 .r2),
    ([0x27010000feffffff], [0x27100000fffffffe], .mulImm .r1 (-2)),
    ([0x3f21000000000000], [0x3f12000000000000], .divReg .r1 .r2),
    ([0x37010000ffffffff], [0x37100000ffffffff], .divImm .r1 (-1)),
    ([0x9f21000000000000], [0x9f12000000000000], .modReg .r1 .r2),
    ([0x970100000a000000], [0x971000000000000a], .modImm .r1 10),
    ([0x5f21000000000000], [0x5f12000000000000], .andReg .r1 .r2),
    ([0x57010000f0ffffff], [0x57100000fffffff0], .andImm .r1 (-16)),
    ([0x4f21000000000000], [0x4f12000000000000], .orReg .r1 .r2),
    ([0x4701000000000080], [0x4710000080000000], .orImm .r1 (-2147483648)),
    ([0xaf21000000000000], [0xaf12000000000000], .xorReg .r1 .r2),
    ([0xa7010000ffffffff], [0xa7100000ffffffff], .xorImm .r1 (-1)),
    ([0x6f21000000000000], [0x6f12000000000000], .lshReg .r1 .r2),
    ([0x6701000004000000], [0x6710000000000004], .lshImm .r1 4),
    ([0x7f21000000000000], [0x7f12000000000000], .rshReg .r1 .r2),
    ([0x7701000004000000], [0x7710000000000004], .rshImm .r1 4),
    ([0xcf21000000000000], [0xcf12000000000000], .arshReg .r1 .r2),
    ([0xc701000004000000], [0xc710000000000004], .arshImm .r1 4),
    ([0x8701000000000000], [0x8710000000000000], .neg .r1),
    ([0xbf21000000000000], [0xbf12000000000000], .movReg .r1 .r2),
    ([0xb7010000feffffff], [0xb7100000fffffffe], .movImm .r1 (-2)),
    ([0xbf21080000000000], [0xbf12000800000000], .movs8 .r1 .r2),
    ([0xbf21100000000000], [0xbf12001000000000], .movs16 .r1 .r2),
    ([0xbf21200000000000], [0xbf12002000000000], .movs32 .r1 .r2)] : List (List Nat × List Nat × Instr)).all readsBoth = true := by decide

/-- The encodings of the examples of spec/41_alu32.md. -/
theorem test_decode_alu32 : ([
    ([0x0c21000000000000], [0x0c12000000000000], .add32Reg .r1 .r2),
    ([0x04010000ffffffff], [0x04100000ffffffff], .add32Imm .r1 (-1)),
    ([0x1c21000000000000], [0x1c12000000000000], .sub32Reg .r1 .r2),
    ([0x1401000007000000], [0x1410000000000007], .sub32Imm .r1 7),
    ([0x2c21000000000000], [0x2c12000000000000], .mul32Reg .r1 .r2),
    ([0x24010000feffffff], [0x24100000fffffffe], .mul32Imm .r1 (-2)),
    ([0x3c21000000000000], [0x3c12000000000000], .div32Reg .r1 .r2),
    ([0x34010000ffffffff], [0x34100000ffffffff], .div32Imm .r1 (-1)),
    ([0x9c21000000000000], [0x9c12000000000000], .mod32Reg .r1 .r2),
    ([0x940100000a000000], [0x941000000000000a], .mod32Imm .r1 10),
    ([0x5c21000000000000], [0x5c12000000000000], .and32Reg .r1 .r2),
    ([0x54010000f0ffffff], [0x54100000fffffff0], .and32Imm .r1 (-16)),
    ([0x4c21000000000000], [0x4c12000000000000], .or32Reg .r1 .r2),
    ([0x4401000000000080], [0x4410000080000000], .or32Imm .r1 (-2147483648)),
    ([0xac21000000000000], [0xac12000000000000], .xor32Reg .r1 .r2),
    ([0xa4010000ffffffff], [0xa4100000ffffffff], .xor32Imm .r1 (-1)),
    ([0x6c21000000000000], [0x6c12000000000000], .lsh32Reg .r1 .r2),
    ([0x6401000004000000], [0x6410000000000004], .lsh32Imm .r1 4),
    ([0x7c21000000000000], [0x7c12000000000000], .rsh32Reg .r1 .r2),
    ([0x7401000004000000], [0x7410000000000004], .rsh32Imm .r1 4),
    ([0xcc21000000000000], [0xcc12000000000000], .arsh32Reg .r1 .r2),
    ([0xc401000004000000], [0xc410000000000004], .arsh32Imm .r1 4),
    ([0x8401000000000000], [0x8410000000000000], .neg32 .r1),
    ([0xbc21000000000000], [0xbc12000000000000], .mov32Reg .r1 .r2),
    ([0xb4010000feffffff], [0xb4100000fffffffe], .mov32Imm .r1 (-2)),
    ([0xbc21080000000000], [0xbc12000800000000], .mov32s8 .r1 .r2),
    ([0xbc21100000000000], [0xbc12001000000000], .mov32s16 .r1 .r2),
    ([0xbc21200000000000], [0xbc12002000000000], .mov32s32 .r1 .r2)] : List (List Nat × List Nat × Instr)).all readsBoth = true := by decide

/-- The encodings of the examples of spec/42_endian_bswap.md. -/
theorem test_decode_byteorder : ([
    ([0xd401000010000000], [0xd410000000000010], .endle16 .r1),
    ([0xd401000020000000], [0xd410000000000020], .endle32 .r1),
    ([0xd401000040000000], [0xd410000000000040], .endle64 .r1),
    ([0xdc01000010000000], [0xdc10000000000010], .endbe16 .r1),
    ([0xdc01000020000000], [0xdc10000000000020], .endbe32 .r1),
    ([0xdc01000040000000], [0xdc10000000000040], .endbe64 .r1),
    ([0xd701000010000000], [0xd710000000000010], .bswap16 .r1),
    ([0xd701000020000000], [0xd710000000000020], .bswap32 .r1),
    ([0xd701000040000000], [0xd710000000000040], .bswap64 .r1)] : List (List Nat × List Nat × Instr)).all readsBoth = true := by decide

/-- The encodings of the examples of spec/43_lddw.md. -/
theorem test_decode_loadimm : ([
    ([0x1801000088776655, 0x0000000044332211], [0x1810000055667788, 0x0000000011223344], .lddw .r1 1234605616436508552)] : List (List Nat × List Nat × Instr)).all readsBoth = true := by decide

/-- The encodings of the examples of spec/44_socket_loads.md. -/
theorem test_decode_packet : ([
    ([0x2000000002000000], [0x2000000000000002], .ldabsw 2),
    ([0x2800000002000000], [0x2800000000000002], .ldabsh 2),
    ([0x3000000002000000], [0x3000000000000002], .ldabsb 2),
    ([0x4020000002000000], [0x4002000000000002], .ldindw .r2 2),
    ([0x4820000002000000], [0x4802000000000002], .ldindh .r2 2),
    ([0x5020000002000000], [0x5002000000000002], .ldindb .r2 2)] : List (List Nat × List Nat × Instr)).all readsBoth = true := by decide

/-- The encodings of the examples of spec/45_load_store.md. -/
theorem test_decode_loadstore : ([
    ([0x79a1f8ff00000000], [0x791afff800000000], .ldxdw .r1 .r10 (-8)),
    ([0x61a1f8ff00000000], [0x611afff800000000], .ldxw .r1 .r10 (-8)),
    ([0x69a1f8ff00000000], [0x691afff800000000], .ldxh .r1 .r10 (-8)),
    ([0x71a1f8ff00000000], [0x711afff800000000], .ldxb .r1 .r10 (-8)),
    ([0x99a1f8ff00000000], [0x991afff800000000], .ldxsdw .r1 .r10 (-8)),
    ([0x81a1f8ff00000000], [0x811afff800000000], .ldxsw .r1 .r10 (-8)),
    ([0x89a1f8ff00000000], [0x891afff800000000], .ldxsh .r1 .r10 (-8)),
    ([0x91a1f8ff00000000], [0x911afff800000000], .ldxsb .r1 .r10 (-8)),
    ([0x7b1af8ff00000000], [0x7ba1fff800000000], .stxdw .r10 .r1 (-8)),
    ([0x631af8ff00000000], [0x63a1fff800000000], .stxw .r10 .r1 (-8)),
    ([0x6b1af8ff00000000], [0x6ba1fff800000000], .stxh .r10 .r1 (-8)),
    ([0x731af8ff00000000], [0x73a1fff800000000], .stxb .r10 .r1 (-8)),
    ([0x7a0af8fffeffffff], [0x7aa0fff8fffffffe], .stdw .r10 (-8) (-2)),
    ([0x620af8fffeffffff], [0x62a0fff8fffffffe], .stw .r10 (-8) (-2)),
    ([0x6a0af8fffeffffff], [0x6aa0fff8fffffffe], .sth .r10 (-8) (-2)),
    ([0x720af8fffeffffff], [0x72a0fff8fffffffe], .stb .r10 (-8) (-2))] : List (List Nat × List Nat × Instr)).all readsBoth = true := by decide

/-- The encodings of the examples of spec/46_jump.md. -/
theorem test_decode_jump : ([
    ([0x0500030000000000], [0x0500000300000000], .ja 3),
    ([0x06000000a0860100], [0x06000000000186a0], .jal 100000),
    ([0x1d21030000000000], [0x1d12000300000000], .jeqReg .r1 .r2 3),
    ([0x15010300ffffffff], [0x15100003ffffffff], .jeqImm .r1 (-1) 3),
    ([0x2d21030000000000], [0x2d12000300000000], .jgtReg .r1 .r2 3),
    ([0x25010300ffffffff], [0x25100003ffffffff], .jgtImm .r1 (-1) 3),
    ([0x3d21030000000000], [0x3d12000300000000], .jgeReg .r1 .r2 3),
    ([0x35010300ffffffff], [0x35100003ffffffff], .jgeImm .r1 (-1) 3),
    ([0xad21030000000000], [0xad12000300000000], .jltReg .r1 .r2 3),
    ([0xa5010300ffffffff], [0xa5100003ffffffff], .jltImm .r1 (-1) 3),
    ([0xbd21030000000000], [0xbd12000300000000], .jleReg .r1 .r2 3),
    ([0xb5010300ffffffff], [0xb5100003ffffffff], .jleImm .r1 (-1) 3),
    ([0x4d21030000000000], [0x4d12000300000000], .jsetReg .r1 .r2 3),
    ([0x45010300ffffffff], [0x45100003ffffffff], .jsetImm .r1 (-1) 3),
    ([0x5d21030000000000], [0x5d12000300000000], .jneReg .r1 .r2 3),
    ([0x55010300ffffffff], [0x55100003ffffffff], .jneImm .r1 (-1) 3),
    ([0x6d21030000000000], [0x6d12000300000000], .jsgtReg .r1 .r2 3),
    ([0x65010300ffffffff], [0x65100003ffffffff], .jsgtImm .r1 (-1) 3),
    ([0x7d21030000000000], [0x7d12000300000000], .jsgeReg .r1 .r2 3),
    ([0x75010300ffffffff], [0x75100003ffffffff], .jsgeImm .r1 (-1) 3),
    ([0xcd21030000000000], [0xcd12000300000000], .jsltReg .r1 .r2 3),
    ([0xc5010300ffffffff], [0xc5100003ffffffff], .jsltImm .r1 (-1) 3),
    ([0xdd21030000000000], [0xdd12000300000000], .jsleReg .r1 .r2 3),
    ([0xd5010300ffffffff], [0xd5100003ffffffff], .jsleImm .r1 (-1) 3)] : List (List Nat × List Nat × Instr)).all readsBoth = true := by decide

/-- The encodings of the examples of spec/46_jump.md (calls and exit). -/
theorem test_decode_call : ([
    ([0x8510000002000000], [0x8501000000000002], .callLocal 2),
    ([0x8500000007000000], [0x8500000000000007], .callHelper 7),
    ([0x9500000000000000], [0x9500000000000000], .exit)] : List (List Nat × List Nat × Instr)).all readsBoth = true := by decide

/-- The encodings of the examples of spec/47_jump32.md. -/
theorem test_decode_jump32 : ([
    ([0x1e21030000000000], [0x1e12000300000000], .jeq32Reg .r1 .r2 3),
    ([0x16010300ffffffff], [0x16100003ffffffff], .jeq32Imm .r1 (-1) 3),
    ([0x2e21030000000000], [0x2e12000300000000], .jgt32Reg .r1 .r2 3),
    ([0x26010300ffffffff], [0x26100003ffffffff], .jgt32Imm .r1 (-1) 3),
    ([0x3e21030000000000], [0x3e12000300000000], .jge32Reg .r1 .r2 3),
    ([0x36010300ffffffff], [0x36100003ffffffff], .jge32Imm .r1 (-1) 3),
    ([0xae21030000000000], [0xae12000300000000], .jlt32Reg .r1 .r2 3),
    ([0xa6010300ffffffff], [0xa6100003ffffffff], .jlt32Imm .r1 (-1) 3),
    ([0xbe21030000000000], [0xbe12000300000000], .jle32Reg .r1 .r2 3),
    ([0xb6010300ffffffff], [0xb6100003ffffffff], .jle32Imm .r1 (-1) 3),
    ([0x4e21030000000000], [0x4e12000300000000], .jset32Reg .r1 .r2 3),
    ([0x46010300ffffffff], [0x46100003ffffffff], .jset32Imm .r1 (-1) 3),
    ([0x5e21030000000000], [0x5e12000300000000], .jne32Reg .r1 .r2 3),
    ([0x56010300ffffffff], [0x56100003ffffffff], .jne32Imm .r1 (-1) 3),
    ([0x6e21030000000000], [0x6e12000300000000], .jsgt32Reg .r1 .r2 3),
    ([0x66010300ffffffff], [0x66100003ffffffff], .jsgt32Imm .r1 (-1) 3),
    ([0x7e21030000000000], [0x7e12000300000000], .jsge32Reg .r1 .r2 3),
    ([0x76010300ffffffff], [0x76100003ffffffff], .jsge32Imm .r1 (-1) 3),
    ([0xce21030000000000], [0xce12000300000000], .jslt32Reg .r1 .r2 3),
    ([0xc6010300ffffffff], [0xc6100003ffffffff], .jslt32Imm .r1 (-1) 3),
    ([0xde21030000000000], [0xde12000300000000], .jsle32Reg .r1 .r2 3),
    ([0xd6010300ffffffff], [0xd6100003ffffffff], .jsle32Imm .r1 (-1) 3)] : List (List Nat × List Nat × Instr)).all readsBoth = true := by decide

/-- The encodings of the examples of spec/48_atomic64.md. -/
theorem test_decode_atomic64 : ([
    ([0xdb210000f1000000], [0xdb120000000000f1], .acmp .r1 .r2 0),
    ([0xdb210000e1000000], [0xdb120000000000e1], .axchg .r1 .r2 0),
    ([0xdb21000000000000], [0xdb12000000000000], .aadd .r1 .r2 0),
    ([0xdb21000040000000], [0xdb12000000000040], .aor .r1 .r2 0),
    ([0xdb21000050000000], [0xdb12000000000050], .aand .r1 .r2 0),
    ([0xdb210000a0000000], [0xdb120000000000a0], .axor .r1 .r2 0),
    ([0xdb21000001000000], [0xdb12000000000001], .afadd .r1 .r2 0),
    ([0xdb21000041000000], [0xdb12000000000041], .afor .r1 .r2 0),
    ([0xdb21000051000000], [0xdb12000000000051], .afand .r1 .r2 0),
    ([0xdb210000a1000000], [0xdb120000000000a1], .afxor .r1 .r2 0)] : List (List Nat × List Nat × Instr)).all readsBoth = true := by decide

/-- The encodings of the examples of spec/49_atomic32.md. -/
theorem test_decode_atomic32 : ([
    ([0xc3210000f1000000], [0xc3120000000000f1], .acmp32 .r1 .r2 0),
    ([0xc3210000e1000000], [0xc3120000000000e1], .axchg32 .r1 .r2 0),
    ([0xc321000000000000], [0xc312000000000000], .aadd32 .r1 .r2 0),
    ([0xc321000040000000], [0xc312000000000040], .aor32 .r1 .r2 0),
    ([0xc321000050000000], [0xc312000000000050], .aand32 .r1 .r2 0),
    ([0xc3210000a0000000], [0xc3120000000000a0], .axor32 .r1 .r2 0),
    ([0xc321000001000000], [0xc312000000000001], .afadd32 .r1 .r2 0),
    ([0xc321000041000000], [0xc312000000000041], .afor32 .r1 .r2 0),
    ([0xc321000051000000], [0xc312000000000051], .afand32 .r1 .r2 0),
    ([0xc3210000a1000000], [0xc3120000000000a1], .afxor32 .r1 .r2 0)] : List (List Nat × List Nat × Instr)).all readsBoth = true := by decide

/-- Slots that are no instruction, each refused for its own reason: an opcode of no row, an unused field that is not zero,
a register number above 10, r10 written, a selector of no row, a `call` of another src, a truncated `lddw`, an `lddw`
whose second slot has an opcode, and instructions of version 3 on a machine of version 2 (rules R97, R107, R120 to
R124). -/
theorem test_illegal :
    decodeSlots 4 .little [slot 0] = .error .noRow ∧
    decodeSlots 4 .little [slot 0x0F21000001000000] = .error .noRow ∧
    decodeSlots 4 .little [slot 0x0FB1000000000000] = .error .badRegister ∧
    decodeSlots 4 .little [slot 0x0F2A000000000000] = .error .writesR10 ∧
    decodeSlots 4 .little [slot 0xDB21000002000000] = .error .noRow ∧
    decodeSlots 4 .little [slot 0x8520000002000000] = .error .noRow ∧
    decodeSlots 4 .little [slot 0x1801000000000000] = .error .lddwTruncated ∧
    decodeSlots 4 .little [slot 0x1801000000000000, slot 0x9500000000000000] = .error .lddwSecondSlot ∧
    decodeSlots 2 .little [slot 0x1E21030000000000] = .error .versionTooLow ∧
    decodeSlots 2 .little [slot 0xDB210000F1000000] = .error .versionTooLow := by decide

/-- A table word of two slots reads as an `lddw`; one of a single slot leaves the second slot zero. -/
theorem test_table_words :
    decodeTableWord 128 0x11223344000000005566778800000118 = some (.lddw .r1 0x1122334455667788) ∧
    decodeTableWord 64 0x5566778800000118 = some (.lddw .r1 0x55667788) ∧
    decodeTableWord 64 0x0000000000000195 = none := by decide

/-! ### What WellFormed refuses -/

/-- r10 as the written register of a move. -/
theorem test_wellFormed_refuses_mov_r10 : (Instr.movImm .r10 0).wellFormed 4 = false := by decide

/-- r10 as the source that a fetching atomic writes. -/
theorem test_wellFormed_refuses_fetch_r10 : (Instr.afadd .r1 .r10 0).wellFormed 4 = false := by decide

/-- A 32-bit conditional jump below version 3. -/
theorem test_wellFormed_refuses_version : (Instr.jeq32Imm .r1 0 0).wellFormed 2 = false := by decide

/-- The two checks accept what is an instruction: r10 as the base of a store, and version 3. -/
theorem test_wellFormed_accepts :
    (Instr.stdw .r10 0 0).wellFormed 1 = true ∧ (Instr.jeq32Imm .r10 0 0).wellFormed 3 = true ∧
    (Instr.acmp .r10 .r10 0).wellFormed 3 = true := by decide

/-! ### Results -/

/-- The results of the examples of spec/40_alu64.md. -/
theorem test_alu64 : ([
    (.addReg .r1 .r2, (some 0xFFFFFFFFFFFFFFFF), (some 0x1), 0x0),
    (.addImm .r1 (-1), (some 0x0), none, 0xFFFFFFFFFFFFFFFF),
    (.subReg .r1 .r2, (some 0x0), (some 0x1), 0xFFFFFFFFFFFFFFFF),
    (.subImm .r1 7, (some 0x5), none, 0xFFFFFFFFFFFFFFFE),
    (.mulReg .r1 .r2, (some 0xFFFFFFFFFFFFFFFF), (some 0x3), 0xFFFFFFFFFFFFFFFD),
    (.mulImm .r1 (-2), (some 0x3), none, 0xFFFFFFFFFFFFFFFA),
    (.divReg .r1 .r2, (some 0xFFFFFFFFFFFFFFFF), (some 0x2), 0x7FFFFFFFFFFFFFFF),
    (.divImm .r1 (-1), (some 0xFFFFFFFFFFFFFFFF), none, 0x1),
    (.modReg .r1 .r2, (some 0xFFFFFFFFFFFFFFFE), (some 0x7), 0x0),
    (.modImm .r1 10, (some 0x3039), none, 0x5),
    (.andReg .r1 .r2, (some 0xF0F0F0F0F0F0F0F0), (some 0xFF00FF00FF00FF), 0xF000F000F000F0),
    (.andImm .r1 (-16), (some 0x123456789ABCDEFF), none, 0x123456789ABCDEF0),
    (.orReg .r1 .r2, (some 0xF0F0F0F0F0F0F0F0), (some 0xFF00FF00FF00FF), 0xF0FFF0FFF0FFF0FF),
    (.orImm .r1 (-2147483648), (some 0x0), none, 0xFFFFFFFF80000000),
    (.xorReg .r1 .r2, (some 0xF0F0F0F0F0F0F0F0), (some 0xFF00FF00FF00FF), 0xF00FF00FF00FF00F),
    (.xorImm .r1 (-1), (some 0x0), none, 0xFFFFFFFFFFFFFFFF),
    (.lshReg .r1 .r2, (some 0x1), (some 0x41), 0x2),
    (.lshImm .r1 4, (some 0xFFFFFFFFFFFFFFF), none, 0xFFFFFFFFFFFFFFF0),
    (.rshReg .r1 .r2, (some 0x8000000000000000), (some 0x3F), 0x1),
    (.rshImm .r1 4, (some 0xF000000000000000), none, 0xF00000000000000),
    (.arshReg .r1 .r2, (some 0x8000000000000000), (some 0x3F), 0xFFFFFFFFFFFFFFFF),
    (.arshImm .r1 4, (some 0xF000000000000000), none, 0xFF00000000000000),
    (.neg .r1, (some 0x1), none, 0xFFFFFFFFFFFFFFFF),
    (.neg .r1, (some 0x8000000000000000), none, 0x8000000000000000),
    (.movReg .r1 .r2, (some 0x1111111111111111), (some 0x8877665544332211), 0x8877665544332211),
    (.movImm .r1 (-2), (some 0x1111111111111111), none, 0xFFFFFFFFFFFFFFFE),
    (.movs8 .r1 .r2, none, (some 0x1122334455667788), 0xFFFFFFFFFFFFFF88),
    (.movs16 .r1 .r2, none, (some 0x1122334455668788), 0xFFFFFFFFFFFF8788),
    (.movs32 .r1 .r2, none, (some 0x11223344F5667788), 0xFFFFFFFFF5667788)] : List (Instr × Option Word × Option Word × Word)).all alu = true := by decide

/-- The results of the examples of spec/41_alu32.md. -/
theorem test_alu32 : ([
    (.add32Reg .r1 .r2, (some 0x12345678FFFFFFFF), (some 0xAAAAAAAA00000001), 0x0),
    (.add32Imm .r1 (-1), (some 0xFFFFFFFF00000000), none, 0xFFFFFFFF),
    (.sub32Reg .r1 .r2, (some 0x0), (some 0x1), 0xFFFFFFFF),
    (.sub32Imm .r1 7, (some 0x5), none, 0xFFFFFFFE),
    (.mul32Reg .r1 .r2, (some 0xFFFFFFFF), (some 0x3), 0xFFFFFFFD),
    (.mul32Imm .r1 (-2), (some 0x3), none, 0xFFFFFFFA),
    (.div32Reg .r1 .r2, (some 0xFFFFFFFFFFFFFFFF), (some 0x2), 0x7FFFFFFF),
    (.div32Imm .r1 (-1), (some 0xFFFFFFFF), none, 0x1),
    (.mod32Reg .r1 .r2, (some 0xFFFFFFFE), (some 0x7), 0x2),
    (.mod32Imm .r1 10, (some 0x3039), none, 0x5),
    (.and32Reg .r1 .r2, (some 0xFFFFFFFFF0F0F0F0), (some 0xFF00FF), 0xF000F0),
    (.and32Imm .r1 (-16), (some 0x123456789ABCDEFF), none, 0x9ABCDEF0),
    (.or32Reg .r1 .r2, (some 0xFFFFFFFFF0F0F0F0), (some 0xFF00FF), 0xF0FFF0FF),
    (.or32Imm .r1 (-2147483648), (some 0x0), none, 0x80000000),
    (.xor32Reg .r1 .r2, (some 0xFFFFFFFFF0F0F0F0), (some 0xFF00FF), 0xF00FF00F),
    (.xor32Imm .r1 (-1), (some 0x0), none, 0xFFFFFFFF),
    (.lsh32Reg .r1 .r2, (some 0x1), (some 0x21), 0x2),
    (.lsh32Imm .r1 4, (some 0xFFFFFFF), none, 0xFFFFFFF0),
    (.rsh32Reg .r1 .r2, (some 0xFFFFFFFF80000000), (some 0x1F), 0x1),
    (.rsh32Imm .r1 4, (some 0xF0000000), none, 0xF000000),
    (.arsh32Reg .r1 .r2, (some 0x80000000), (some 0x1F), 0xFFFFFFFF),
    (.arsh32Imm .r1 4, (some 0xF0000000), none, 0xFF000000),
    (.neg32 .r1, (some 0xAAAAAAAA00000001), none, 0xFFFFFFFF),
    (.neg32 .r1, (some 0x80000000), none, 0x80000000),
    (.mov32Reg .r1 .r2, (some 0x1111111111111111), (some 0x8877665544332211), 0x44332211),
    (.mov32Imm .r1 (-2), (some 0x1111111111111111), none, 0xFFFFFFFE),
    (.mov32s8 .r1 .r2, none, (some 0x1122334455667788), 0xFFFFFF88),
    (.mov32s16 .r1 .r2, none, (some 0x1122334455668788), 0xFFFF8788),
    (.mov32s32 .r1 .r2, none, (some 0x11223344F5667788), 0xF5667788)] : List (Instr × Option Word × Option Word × Word)).all alu = true := by decide

/-- The results of the examples of spec/42_endian_bswap.md. -/
theorem test_byte_order : ([
    (.endle16 .r1, 0x7788, 0x8877),
    (.endle32 .r1, 0x55667788, 0x88776655),
    (.endle64 .r1, 0x1122334455667788, 0x8877665544332211),
    (.endbe16 .r1, 0x8877, 0x7788),
    (.endbe32 .r1, 0x88776655, 0x55667788),
    (.endbe64 .r1, 0x8877665544332211, 0x1122334455667788),
    (.bswap16 .r1, 0x8877, 0x8877),
    (.bswap32 .r1, 0x88776655, 0x88776655),
    (.bswap64 .r1, 0x8877665544332211, 0x8877665544332211)] : List (Instr × Word × Word)).all order = true := by decide

/-- The results of the examples of spec/44_socket_loads.md. -/
theorem test_packet : ([
    (.ldabsw 2, 0x12131415),
    (.ldabsh 2, 0x1213),
    (.ldabsb 2, 0x12),
    (.ldindw .r2 2, 0x16171819),
    (.ldindh .r2 2, 0x1617),
    (.ldindb .r2 2, 0x16)] : List (Instr × Word)).all packetRow = true := by decide

/-- The results of the load examples of spec/45_load_store.md. -/
theorem test_loads : ([
    (.ldxdw .r1 .r10 (-8), 0xF1E2D3C4B5A69788, 0x8897A6B5C4D3E2F1),
    (.ldxw .r1 .r10 (-8), 0xB5A69788, 0x8897A6B5),
    (.ldxh .r1 .r10 (-8), 0x9788, 0x8897),
    (.ldxb .r1 .r10 (-8), 0x88, 0x88),
    (.ldxsdw .r1 .r10 (-8), 0xF1E2D3C4B5A69788, 0x8897A6B5C4D3E2F1),
    (.ldxsw .r1 .r10 (-8), 0xFFFFFFFFB5A69788, 0xFFFFFFFF8897A6B5),
    (.ldxsh .r1 .r10 (-8), 0xFFFFFFFFFFFF9788, 0xFFFFFFFFFFFF8897),
    (.ldxsb .r1 .r10 (-8), 0xFFFFFFFFFFFFFF88, 0xFFFFFFFFFFFFFF88)] : List (Instr × Word × Word)).all loadRow = true := by decide

/-- The results of the store examples of spec/45_load_store.md. -/
theorem test_stores : ([
    (.stxdw .r10 .r1 (-8), [0x88, 0x77, 0x66, 0x55, 0x44, 0x33, 0x22, 0x11], [0x11, 0x22, 0x33, 0x44, 0x55, 0x66, 0x77, 0x88]),
    (.stxw .r10 .r1 (-8), [0x88, 0x77, 0x66, 0x55], [0x55, 0x66, 0x77, 0x88]),
    (.stxh .r10 .r1 (-8), [0x88, 0x77], [0x77, 0x88]),
    (.stxb .r10 .r1 (-8), [0x88], [0x88]),
    (.stdw .r10 (-8) (-2), [0xfe, 0xff, 0xff, 0xff, 0xff, 0xff, 0xff, 0xff], [0xff, 0xff, 0xff, 0xff, 0xff, 0xff, 0xff, 0xfe]),
    (.stw .r10 (-8) (-2), [0xfe, 0xff, 0xff, 0xff], [0xff, 0xff, 0xff, 0xfe]),
    (.sth .r10 (-8) (-2), [0xfe, 0xff], [0xff, 0xfe]),
    (.stb .r10 (-8) (-2), [0xfe], [0xfe])] : List (Instr × List Byte × List Byte)).all storeRow = true := by decide

/-- The results of the register-form examples of spec/46_jump.md and spec/47_jump32.md. -/
theorem test_jumps_reg_1 : ([
    (.jeqReg .r1 .r2 3, 0xFFFFFFFFFFFFFFFF, 0x1, 1),
    (.jeqReg .r1 .r2 3, 0x1, 0xFFFFFFFFFFFFFFFF, 1),
    (.jeqReg .r1 .r2 3, 0xFFFFFFFFFFFFFFFF, 0xFFFFFFFFFFFFFFFF, 4),
    (.jgtReg .r1 .r2 3, 0xFFFFFFFFFFFFFFFF, 0x1, 4),
    (.jgtReg .r1 .r2 3, 0x1, 0xFFFFFFFFFFFFFFFF, 1),
    (.jgtReg .r1 .r2 3, 0xFFFFFFFFFFFFFFFF, 0xFFFFFFFFFFFFFFFF, 1),
    (.jgeReg .r1 .r2 3, 0xFFFFFFFFFFFFFFFF, 0x1, 4),
    (.jgeReg .r1 .r2 3, 0x1, 0xFFFFFFFFFFFFFFFF, 1),
    (.jgeReg .r1 .r2 3, 0xFFFFFFFFFFFFFFFF, 0xFFFFFFFFFFFFFFFF, 4),
    (.jltReg .r1 .r2 3, 0xFFFFFFFFFFFFFFFF, 0x1, 1),
    (.jltReg .r1 .r2 3, 0x1, 0xFFFFFFFFFFFFFFFF, 4),
    (.jltReg .r1 .r2 3, 0xFFFFFFFFFFFFFFFF, 0xFFFFFFFFFFFFFFFF, 1),
    (.jleReg .r1 .r2 3, 0xFFFFFFFFFFFFFFFF, 0x1, 1),
    (.jleReg .r1 .r2 3, 0x1, 0xFFFFFFFFFFFFFFFF, 4),
    (.jleReg .r1 .r2 3, 0xFFFFFFFFFFFFFFFF, 0xFFFFFFFFFFFFFFFF, 4),
    (.jsetReg .r1 .r2 3, 0xFFFFFFFFFFFFFFFF, 0x1, 4),
    (.jsetReg .r1 .r2 3, 0x1, 0xFFFFFFFFFFFFFFFF, 4),
    (.jsetReg .r1 .r2 3, 0xFFFFFFFFFFFFFFFF, 0xFFFFFFFFFFFFFFFF, 4),
    (.jneReg .r1 .r2 3, 0xFFFFFFFFFFFFFFFF, 0x1, 4),
    (.jneReg .r1 .r2 3, 0x1, 0xFFFFFFFFFFFFFFFF, 4),
    (.jneReg .r1 .r2 3, 0xFFFFFFFFFFFFFFFF, 0xFFFFFFFFFFFFFFFF, 1),
    (.jsgtReg .r1 .r2 3, 0xFFFFFFFFFFFFFFFF, 0x1, 1),
    (.jsgtReg .r1 .r2 3, 0x1, 0xFFFFFFFFFFFFFFFF, 4),
    (.jsgtReg .r1 .r2 3, 0xFFFFFFFFFFFFFFFF, 0xFFFFFFFFFFFFFFFF, 1),
    (.jsgeReg .r1 .r2 3, 0xFFFFFFFFFFFFFFFF, 0x1, 1),
    (.jsgeReg .r1 .r2 3, 0x1, 0xFFFFFFFFFFFFFFFF, 4),
    (.jsgeReg .r1 .r2 3, 0xFFFFFFFFFFFFFFFF, 0xFFFFFFFFFFFFFFFF, 4),
    (.jsltReg .r1 .r2 3, 0xFFFFFFFFFFFFFFFF, 0x1, 4),
    (.jsltReg .r1 .r2 3, 0x1, 0xFFFFFFFFFFFFFFFF, 1),
    (.jsltReg .r1 .r2 3, 0xFFFFFFFFFFFFFFFF, 0xFFFFFFFFFFFFFFFF, 1),
    (.jsleReg .r1 .r2 3, 0xFFFFFFFFFFFFFFFF, 0x1, 4),
    (.jsleReg .r1 .r2 3, 0x1, 0xFFFFFFFFFFFFFFFF, 1),
    (.jsleReg .r1 .r2 3, 0xFFFFFFFFFFFFFFFF, 0xFFFFFFFFFFFFFFFF, 4)] : List (Instr × Word × Word × Int)).all jumpRow = true := by decide

/-- The results of the register-form examples of spec/46_jump.md and spec/47_jump32.md. -/
theorem test_jumps_reg_2 : ([
    (.jeq32Reg .r1 .r2 3, 0x1FFFFFFFF, 0xFFFFFFFF00000001, 1),
    (.jeq32Reg .r1 .r2 3, 0xFFFFFFFF00000001, 0x1FFFFFFFF, 1),
    (.jeq32Reg .r1 .r2 3, 0x1FFFFFFFF, 0x77777777FFFFFFFF, 4),
    (.jgt32Reg .r1 .r2 3, 0x1FFFFFFFF, 0xFFFFFFFF00000001, 4),
    (.jgt32Reg .r1 .r2 3, 0xFFFFFFFF00000001, 0x1FFFFFFFF, 1),
    (.jgt32Reg .r1 .r2 3, 0x1FFFFFFFF, 0x77777777FFFFFFFF, 1),
    (.jge32Reg .r1 .r2 3, 0x1FFFFFFFF, 0xFFFFFFFF00000001, 4),
    (.jge32Reg .r1 .r2 3, 0xFFFFFFFF00000001, 0x1FFFFFFFF, 1),
    (.jge32Reg .r1 .r2 3, 0x1FFFFFFFF, 0x77777777FFFFFFFF, 4),
    (.jlt32Reg .r1 .r2 3, 0x1FFFFFFFF, 0xFFFFFFFF00000001, 1),
    (.jlt32Reg .r1 .r2 3, 0xFFFFFFFF00000001, 0x1FFFFFFFF, 4),
    (.jlt32Reg .r1 .r2 3, 0x1FFFFFFFF, 0x77777777FFFFFFFF, 1),
    (.jle32Reg .r1 .r2 3, 0x1FFFFFFFF, 0xFFFFFFFF00000001, 1),
    (.jle32Reg .r1 .r2 3, 0xFFFFFFFF00000001, 0x1FFFFFFFF, 4),
    (.jle32Reg .r1 .r2 3, 0x1FFFFFFFF, 0x77777777FFFFFFFF, 4),
    (.jset32Reg .r1 .r2 3, 0x1FFFFFFFF, 0xFFFFFFFF00000001, 4),
    (.jset32Reg .r1 .r2 3, 0xFFFFFFFF00000001, 0x1FFFFFFFF, 4),
    (.jset32Reg .r1 .r2 3, 0x1FFFFFFFF, 0x77777777FFFFFFFF, 4),
    (.jne32Reg .r1 .r2 3, 0x1FFFFFFFF, 0xFFFFFFFF00000001, 4),
    (.jne32Reg .r1 .r2 3, 0xFFFFFFFF00000001, 0x1FFFFFFFF, 4),
    (.jne32Reg .r1 .r2 3, 0x1FFFFFFFF, 0x77777777FFFFFFFF, 1),
    (.jsgt32Reg .r1 .r2 3, 0x1FFFFFFFF, 0xFFFFFFFF00000001, 1),
    (.jsgt32Reg .r1 .r2 3, 0xFFFFFFFF00000001, 0x1FFFFFFFF, 4),
    (.jsgt32Reg .r1 .r2 3, 0x1FFFFFFFF, 0x77777777FFFFFFFF, 1),
    (.jsge32Reg .r1 .r2 3, 0x1FFFFFFFF, 0xFFFFFFFF00000001, 1),
    (.jsge32Reg .r1 .r2 3, 0xFFFFFFFF00000001, 0x1FFFFFFFF, 4),
    (.jsge32Reg .r1 .r2 3, 0x1FFFFFFFF, 0x77777777FFFFFFFF, 4),
    (.jslt32Reg .r1 .r2 3, 0x1FFFFFFFF, 0xFFFFFFFF00000001, 4),
    (.jslt32Reg .r1 .r2 3, 0xFFFFFFFF00000001, 0x1FFFFFFFF, 1),
    (.jslt32Reg .r1 .r2 3, 0x1FFFFFFFF, 0x77777777FFFFFFFF, 1),
    (.jsle32Reg .r1 .r2 3, 0x1FFFFFFFF, 0xFFFFFFFF00000001, 4),
    (.jsle32Reg .r1 .r2 3, 0xFFFFFFFF00000001, 0x1FFFFFFFF, 1),
    (.jsle32Reg .r1 .r2 3, 0x1FFFFFFFF, 0x77777777FFFFFFFF, 4)] : List (Instr × Word × Word × Int)).all jumpRow = true := by decide

/-- The results of the immediate-form examples of spec/46_jump.md and spec/47_jump32.md. -/
theorem test_jumps_imm_1 : ([
    (.jeqImm .r1 (-1) 3, 0xFFFFFFFFFFFFFFFF, 0, 4),
    (.jeqImm .r1 1 3, 0xFFFFFFFFFFFFFFFF, 0, 1),
    (.jgtImm .r1 (-1) 3, 0xFFFFFFFFFFFFFFFF, 0, 1),
    (.jgtImm .r1 1 3, 0xFFFFFFFFFFFFFFFF, 0, 4),
    (.jgeImm .r1 (-1) 3, 0xFFFFFFFFFFFFFFFF, 0, 4),
    (.jgeImm .r1 1 3, 0xFFFFFFFFFFFFFFFF, 0, 4),
    (.jltImm .r1 (-1) 3, 0xFFFFFFFFFFFFFFFF, 0, 1),
    (.jltImm .r1 1 3, 0xFFFFFFFFFFFFFFFF, 0, 1),
    (.jleImm .r1 (-1) 3, 0xFFFFFFFFFFFFFFFF, 0, 4),
    (.jleImm .r1 1 3, 0xFFFFFFFFFFFFFFFF, 0, 1),
    (.jsetImm .r1 (-1) 3, 0xFFFFFFFFFFFFFFFF, 0, 4),
    (.jsetImm .r1 1 3, 0xFFFFFFFFFFFFFFFF, 0, 4),
    (.jneImm .r1 (-1) 3, 0xFFFFFFFFFFFFFFFF, 0, 1),
    (.jneImm .r1 1 3, 0xFFFFFFFFFFFFFFFF, 0, 4),
    (.jsgtImm .r1 (-1) 3, 0xFFFFFFFFFFFFFFFF, 0, 1),
    (.jsgtImm .r1 1 3, 0xFFFFFFFFFFFFFFFF, 0, 1),
    (.jsgeImm .r1 (-1) 3, 0xFFFFFFFFFFFFFFFF, 0, 4),
    (.jsgeImm .r1 1 3, 0xFFFFFFFFFFFFFFFF, 0, 1),
    (.jsltImm .r1 (-1) 3, 0xFFFFFFFFFFFFFFFF, 0, 1),
    (.jsltImm .r1 1 3, 0xFFFFFFFFFFFFFFFF, 0, 4),
    (.jsleImm .r1 (-1) 3, 0xFFFFFFFFFFFFFFFF, 0, 4),
    (.jsleImm .r1 1 3, 0xFFFFFFFFFFFFFFFF, 0, 4)] : List (Instr × Word × Word × Int)).all jumpRow = true := by decide

/-- The results of the immediate-form examples of spec/46_jump.md and spec/47_jump32.md. -/
theorem test_jumps_imm_2 : ([
    (.jeq32Imm .r1 (-1) 3, 0x12345678FFFFFFFF, 0, 4),
    (.jeq32Imm .r1 1 3, 0x12345678FFFFFFFF, 0, 1),
    (.jgt32Imm .r1 (-1) 3, 0x12345678FFFFFFFF, 0, 1),
    (.jgt32Imm .r1 1 3, 0x12345678FFFFFFFF, 0, 4),
    (.jge32Imm .r1 (-1) 3, 0x12345678FFFFFFFF, 0, 4),
    (.jge32Imm .r1 1 3, 0x12345678FFFFFFFF, 0, 4),
    (.jlt32Imm .r1 (-1) 3, 0x12345678FFFFFFFF, 0, 1),
    (.jlt32Imm .r1 1 3, 0x12345678FFFFFFFF, 0, 1),
    (.jle32Imm .r1 (-1) 3, 0x12345678FFFFFFFF, 0, 4),
    (.jle32Imm .r1 1 3, 0x12345678FFFFFFFF, 0, 1),
    (.jset32Imm .r1 (-1) 3, 0x12345678FFFFFFFF, 0, 4),
    (.jset32Imm .r1 1 3, 0x12345678FFFFFFFF, 0, 4),
    (.jne32Imm .r1 (-1) 3, 0x12345678FFFFFFFF, 0, 1),
    (.jne32Imm .r1 1 3, 0x12345678FFFFFFFF, 0, 4),
    (.jsgt32Imm .r1 (-1) 3, 0x12345678FFFFFFFF, 0, 1),
    (.jsgt32Imm .r1 1 3, 0x12345678FFFFFFFF, 0, 1),
    (.jsge32Imm .r1 (-1) 3, 0x12345678FFFFFFFF, 0, 4),
    (.jsge32Imm .r1 1 3, 0x12345678FFFFFFFF, 0, 1),
    (.jslt32Imm .r1 (-1) 3, 0x12345678FFFFFFFF, 0, 1),
    (.jslt32Imm .r1 1 3, 0x12345678FFFFFFFF, 0, 4),
    (.jsle32Imm .r1 (-1) 3, 0x12345678FFFFFFFF, 0, 4),
    (.jsle32Imm .r1 1 3, 0x12345678FFFFFFFF, 0, 4)] : List (Instr × Word × Word × Int)).all jumpRow = true := by decide

/-- The results of the examples of spec/48_atomic64.md. -/
theorem test_atomics64 : ([
    (.acmp .r1 .r2 0, 0x1111111122222222, 0xAAAAAAAABBBBBBBB, 0x1111111122222222, 0xAAAAAAAABBBBBBBB, 0x1111111122222222, 0xAAAAAAAABBBBBBBB),
    (.acmp .r1 .r2 0, 5, 0xAAAAAAAABBBBBBBB, 0x1111111122222222, 0x1111111122222222, 0x1111111122222222, 0xAAAAAAAABBBBBBBB),
    (.axchg .r1 .r2 0, 7, 0xAAAAAAAABBBBBBBB, 0x1111111122222222, 0xAAAAAAAABBBBBBBB, 7, 0x1111111122222222),
    (.aadd .r1 .r2 0, 7, 0x100000011, 0xFFFFFFFF, 0x200000010, 7, 0x100000011),
    (.aor .r1 .r2 0, 7, 0x100000011, 0xFFFFFFFF, 0x1FFFFFFFF, 7, 0x100000011),
    (.aand .r1 .r2 0, 7, 0x100000011, 0xFFFFFFFF, 0x11, 7, 0x100000011),
    (.axor .r1 .r2 0, 7, 0x100000011, 0xFFFFFFFF, 0x1FFFFFFEE, 7, 0x100000011),
    (.afadd .r1 .r2 0, 7, 0x100000011, 0xFFFFFFFF, 0x200000010, 7, 0xFFFFFFFF),
    (.afor .r1 .r2 0, 7, 0x100000011, 0xFFFFFFFF, 0x1FFFFFFFF, 7, 0xFFFFFFFF),
    (.afand .r1 .r2 0, 7, 0x100000011, 0xFFFFFFFF, 0x11, 7, 0xFFFFFFFF),
    (.afxor .r1 .r2 0, 7, 0x100000011, 0xFFFFFFFF, 0x1FFFFFFEE, 7, 0xFFFFFFFF)] : List (Instr × Word × Word × Nat × Nat × Word × Word)).all (atomicRow 8) = true := by decide

/-- The results of the examples of spec/49_atomic32.md. -/
theorem test_atomics32 : ([
    (.acmp32 .r1 .r2 0, 0xFFFFFFFF22222222, 0xAAAAAAAABBBBBBBB, 0x22222222, 0xBBBBBBBB, 0x22222222, 0xAAAAAAAABBBBBBBB),
    (.acmp32 .r1 .r2 0, 5, 0xAAAAAAAABBBBBBBB, 0x22222222, 0x22222222, 0x22222222, 0xAAAAAAAABBBBBBBB),
    (.axchg32 .r1 .r2 0, 7, 0xAAAAAAAABBBBBBBB, 0x22222222, 0xBBBBBBBB, 7, 0x22222222),
    (.aadd32 .r1 .r2 0, 7, 0xABCDEF0100000011, 0xFFFFFFF0, 0x1, 7, 0xABCDEF0100000011),
    (.aor32 .r1 .r2 0, 7, 0xABCDEF0100000011, 0xFFFFFFF0, 0xFFFFFFF1, 7, 0xABCDEF0100000011),
    (.aand32 .r1 .r2 0, 7, 0xABCDEF0100000011, 0xFFFFFFF0, 0x10, 7, 0xABCDEF0100000011),
    (.axor32 .r1 .r2 0, 7, 0xABCDEF0100000011, 0xFFFFFFF0, 0xFFFFFFE1, 7, 0xABCDEF0100000011),
    (.afadd32 .r1 .r2 0, 7, 0xABCDEF0100000011, 0xFFFFFFF0, 0x1, 7, 0xFFFFFFF0),
    (.afor32 .r1 .r2 0, 7, 0xABCDEF0100000011, 0xFFFFFFF0, 0xFFFFFFF1, 7, 0xFFFFFFF0),
    (.afand32 .r1 .r2 0, 7, 0xABCDEF0100000011, 0xFFFFFFF0, 0x10, 7, 0xFFFFFFF0),
    (.afxor32 .r1 .r2 0, 7, 0xABCDEF0100000011, 0xFFFFFFF0, 0xFFFFFFE1, 7, 0xFFFFFFF0)] : List (Instr × Word × Word × Nat × Nat × Word × Word)).all (atomicRow 4) = true := by decide

/-- `lddw` takes two slots, `ja` and `jal` go where the examples of spec/43_lddw.md and spec/46_jump.md say, and an index
past the packet ends the run (spec/44_socket_loads.md). -/
theorem test_lddw_jumps_packet_end :
    after (.lddw .r1 (-2)) (start []) (fun t => decide (t.pc = 2) && decide (t.regs.r1 = some 0xFFFFFFFFFFFFFFFE)) ∧
    after (.ja 3) (start []) (fun t => decide (t.pc = 4)) ∧
    after (.ja (-1)) { start [] with pc := 7 } (fun t => decide (t.pc = 7)) ∧
    after (.jal 100000) (start []) (fun t => decide (t.pc = 100001)) ∧
    after (.ldabsw 13) (withRegs (start []) none none none (some 0x20000))
      (fun t => decide (t.status = .exited 0)) := by decide

/-- The local call of the examples of spec/46_jump.md. -/
theorem test_call_local : after (.callLocal 2) (withRegs (start []) none (some 0x20000) (some 0x22) (some 0x66)) (fun t =>
    decide (t.pc = 3) && decide (t.frames = [⟨1, some 0x66, none, none, none, 0x10000⟩]) &&
    decide (t.regs = ⟨none, some 0x20000, some 0x22, none, none, none, none, none, none, none, 0xFE00⟩)) := by decide

/-- The helper call of the examples of spec/46_jump.md, with its relation, and without such a helper. -/
theorem test_call_helper :
    after (.callHelper 7) (withRegs (start []) none (some 0x20) (some 5) none) (fun t =>
      decide (t.pc = 1) &&
      decide (t.regs = ⟨some 0x25, none, none, none, none, none, none, none, none, none, 0x10000⟩)) ∧
    after (.callHelper 7) { start [] with params := { (start []).params with helpers := [] } } (fun t =>
      decide (t.status = .faulted (.unknownHelper 7) 0)) := by decide

/-- The two forms of `exit` of the examples of spec/46_jump.md. -/
theorem test_exit :
    after .exit (withRegs (start []) (some 42) none none none) (fun t => decide (t.status = .exited 42)) ∧
    after .exit { start [] with
        regs := ⟨some 42, some 1, none, none, none, none, none, none, none, none, 0xFE00⟩
        frames := [⟨1, some 0x66, none, none, none, 0x10000⟩] } (fun t =>
      decide (t.pc = 1) && decide (t.frames = []) && decide (t.status = .running) &&
      decide (t.regs = ⟨some 42, none, none, none, none, none, some 0x66, none, none, none, 0x10000⟩)) := by decide

/-- The environment whose move writes any byte anywhere. -/
def anyByte : EnvRel := .terms [⟨.choice 0, .const 1, .choice 1⟩]

/-- A misaligned load and store under `ALIGN = split`, with moves of another agent at every step: none of them falls inside the
instruction, and a step takes one before it (rules R59, R69, R410). -/
theorem test_split_access :
    let s : State := { withRegs (start [0x6113000000000000]) none (some 0xF001) (some 0x44332211) none with
      params := { (start [0x6113000000000000]).params with
        align := .split, regions := [⟨0xF000, 4096, true, true, true⟩], env := anyByte }
      mem := [(0xF001, 1), (0xF002, 2), (0xF003, 3), (0xF004, 4)]
      envDraws := [[[0xF001, 0xAA], [0xF002, 0xBB]], [], [[0xF004, 0xDD]], [[0xF000, 0xEE]]] }
    after (.ldxw .r3 .r1 0) s (fun t => decide (t.regs.r3 = some 0x04030201) && decide (t.envDraws = s.envDraws)) ∧
    after (.stxw .r1 .r2 0) s (fun t =>
      decide (t.mem = [(0xF001, 0x11), (0xF002, 0x22), (0xF003, 0x33), (0xF004, 0x44)]) &&
      decide (t.envDraws = s.envDraws)) ∧
    (match step s with
      | .next t => decide (t.regs.r3 = some 0x0403BBAA) && decide (t.envDraws.length = 3)
      | _ => false) = true := by decide

/-- The first step after reset runs the word placed there. -/
theorem test_first_step_after_reset :
    step (State.reset.withFetchWord 64 0x0000002A000000B7) = .next { State.reset.withFetchWord 64 0x0000002A000000B7 with
      regs := { State.reset.regs with r0 := some 42 }, pc := 1 } := rfl

/-! ### States that meet the hypotheses of the statements

Each theorem is named after the statement it is a witness for. -/

/-- The state of the test vectors with values in r0, r1 (a stack address), r2 and r6 (`CTX`). -/
def ready (ns : List Nat) : State := withRegs (start ns) (some 42) (some 0xFFF8) (some 0x22) (some 0x20000)

/-- The same with a shared region and an environment that writes any byte of it. -/
def readyEnv (ns : List Nat) : State :=
  { ready ns with params := { (ready ns).params with regions := [⟨0xF000, 4096, true, true, true⟩], env := anyByte } }

/-- The same under another alignment rule. -/
def readySplit : State := { ready [] with params := { (ready []).params with align := .split } }

/-- The same under the other rule for registers without value. -/
def readyAny : State := { ready [] with params := { (ready []).params with uninit := .any } }

/-- A state at depth 2, in a function that was called from slot 0. -/
def called (ns : List Nat) : State :=
  { ready ns with
    regs := { (ready ns).regs with r10 := 0xFE00 }
    frames := [⟨1, none, none, none, none, 0x10000⟩] }

/-- A state at the greatest depth that can call no more. -/
def deepest : State := { ready [] with frames := List.replicate 7 ⟨1, none, none, none, none, 0x10000⟩ }

/-- `exec` answers a next state with a property. -/
def execNext (i : Instr) (s : State) (p : State → Prop) : Prop := ∃ t, exec i s = .next t ∧ p t

/-- `step` answers a next state with a property. -/
def stepNext (s : State) (p : State → Prop) : Prop := ∃ t, step s = .next t ∧ p t

theorem test_witness_DecodeOfEncode :
    (Instr.acmp .r10 .r9 (-8)).wellFormed 3 = true ∧ (Instr.aadd .r10 .r10 0).wellFormed 0 = true := by decide

theorem test_witness_EncodeOfDecode :
    decodeSlots 4 .big [slot 0x1810000055667788, slot 0x0000000011223344, slot 0] = .ok (.lddw .r1 0x1122334455667788) := by
  decide

theorem test_row_not_zero (i : Instr) : (tableRow i).2 ≠ 0 := by
  refine fun h => absurd (congrArg BitVec.toNat h) ?_
  cases i <;> exact Nat.succ_ne_zero _

/-- A slot that matches no row. -/
theorem test_witness_NoRowIsIllegal :
    (start [0]).status = .running ∧ (start [0]).text = [slot 0] ∧
    ∀ i, ((slot 0).fields (start [0]).params.endian).word &&& (tableRow i).1 ≠ (tableRow i).2 := by
  refine ⟨rfl, rfl, fun i => ?_⟩
  rw [show ((slot 0).fields (start [0]).params.endian).word = 0 by decide, show (0 : BitVec 64) &&& (tableRow i).1 = 0 from BitVec.zero_and]
  exact (test_row_not_zero i).symm

/-- Register 11, a write to r10 as dst and as src, a 32-bit jump on version 2, an lddw cut off and one whose second slot
has a register byte: each is refused for its own reason, and the step takes the fault. -/
theorem test_witness_NoRowIsIllegal_refused :
    let v2 := fun n => { start [n] with params := { (start [n]).params with isaVersion := 2 } }
    let ill := fun (s : State) (x : Illegal) =>
      decide (decodeSlots s.params.isaVersion s.params.endian s.text = .error x) &&
      (match step s with
        | .next t => decide (t.status = .faulted (.illegalInstruction ((s.text.headD (slot 0)).fields .little).word) 0)
        | _ => false)
    ill (start [0xBFB1000000000000]) .badRegister ∧
    ill (start [0xBF1A000000000000]) .writesR10 ∧
    ill (start [0xDBA1000001000000]) .writesR10 ∧
    ill (v2 0x1601000000000000) .versionTooLow ∧
    ill (start [0x1801000000000000]) .lddwTruncated ∧
    ill (start [0x1801000000000000, 0x0001000000000000]) .lddwSecondSlot := by decide

/-- One witness for each of the four clauses. -/
theorem test_witness_WritesToR10AreIllegal :
    (∃ f : Fields, f.dst = 10 ∧ f.opcode.extractLsb' 0 3 = 4) ∧
    (∃ f : Fields, f.src = 10 ∧ f.opcode = 0xDB ∧ f.imm = 0xE1) ∧
    decode 3 { (⟨0x7B, 10, 1, 0, 0⟩ : Fields) with dst := 9 } none = .ok (.stxdw .r9 .r1 0) ∧
    decode 3 { (⟨0xC3, 1, 10, 0, 0xF1⟩ : Fields) with src := 9 } none = .ok (.acmp32 .r1 .r9 0) :=
  ⟨⟨⟨0xD4, 10, 0, 0, 16⟩, by decide⟩, ⟨⟨0xDB, 1, 10, 0, 0xE1⟩, by decide⟩, by decide, by decide⟩

/-- At the boundary of the versions, and both kinds of slots below it. -/
theorem test_witness_VersionGating :
    (Instr.jeq32Imm .r1 1 2).keepsR10 = true ∧ 3 ≤ 3 ∧ 2 < 3 ∧
    (∃ f : Fields, f.opcode.extractLsb' 0 3 = 6 ∧ f.opcode ≠ 0x06) ∧
    (∃ f : Fields, f.opcode = 0xC3 ∧ f.imm ≠ 0) ∧
    ∃ f : Fields, ¬((f.opcode.extractLsb' 0 3 = 6 ∧ f.opcode ≠ 0x06) ∨ ((f.opcode = 0xC3 ∨ f.opcode = 0xDB) ∧ f.imm ≠ 0)) :=
  ⟨by decide, by decide, by decide, ⟨⟨0x16, 1, 0, 2, 1⟩, by decide⟩, ⟨⟨0xC3, 1, 2, 0, 1⟩, by decide⟩,
   ⟨⟨0x06, 0, 0, 0, 1⟩, by decide⟩⟩

theorem test_witness_LddwSecondSlot :
    let s := { start [0x1801000000000000, 0x0000000001000000] with pc := 1 }
    s.status = .running ∧
    decodeSlots s.params.isaVersion s.params.endian (s.params.prog.drop 0) = .ok (.lddw .r1 0x100000000) ∧
    s.pc = ((0 : Nat) : Int) + 1 := by decide

theorem test_witness_StepRunsDecoded :
    let s := { start [0x9500000000000000, 0xBF21000000000000] with pc := 1 }
    s.status = .running ∧ s.pc = ((1 : Nat) : Int) ∧
    decodeSlots s.params.isaVersion s.params.endian (s.params.prog.drop 1) = .ok (.movReg .r1 .r2) ∧ s.params.env = .identity := by
  decide

/-- The boundaries of the first clause, and the last slot for the second. -/
theorem test_witness_PcOutOfRangeFaults :
    (start [0]).status = .running ∧ (-1 : Int) < 0 ∧ ((start [0]).params.prog.length : Int) ≤ 1 ∧
    stepNext (ready [0xBF21000000000000]) (fun _ => 0 ≤ (ready [0xBF21000000000000]).pc ∧
      (ready [0xBF21000000000000]).pc < (ready [0xBF21000000000000]).params.prog.length) ∧
    execNext (.ja 3) (ready []) (fun _ => (ready []).status = .running) :=
  ⟨rfl, by decide, by decide, ⟨_, rfl, by decide⟩, ⟨_, rfl, rfl⟩⟩

theorem test_witness_StepTotalAndFinal :
    (start []).status = .running ∧ ((start []).exitWith 1).status = .exited 1 ∧
    ((start []).raise (.pcOutOfRange 0)).status = .faulted (.pcOutOfRange 0) 0 := ⟨rfl, rfl, rfl⟩

/-- A store, a local call and an exit, from states with the invariant. -/
theorem test_witness_StepKeepsInv :
    (Inv (ready [0x7B21000000000000]) ∧ stepNext (ready [0x7B21000000000000]) fun t => t.mem.length = 8) ∧
    (Inv (called [0x8510000000000000]) ∧ stepNext (called [0x8510000000000000]) fun t => t.frames.length = 2) ∧
    (Inv (called [0x9500000000000000]) ∧ stepNext (called [0x9500000000000000]) fun t => t.frames = []) :=
  ⟨⟨by decide, _, rfl, by decide⟩, ⟨by decide, _, rfl, by decide⟩, ⟨by decide, _, rfl, by decide⟩⟩

theorem test_witness_InvAtLaunch :
    let mem0 : Memory := [(0xF000, 1), (0xFFFF, 2)]
    mem0.wf = true ∧ ∀ c ∈ mem0, isMapped resetParams c.1 = true := by decide

theorem test_witness_ProgramNeverChanges : stepNext (ready [0x7B21000000000000]) fun t => t.status = .running :=
  ⟨_, rfl, by decide⟩

theorem test_witness_FaultsArePrecise :
    (ready []).status = .running ∧
    execNext (.ldxdw .r1 .r2 0) (ready []) (fun t => t.status = .faulted (.misalignedAccess 0x22 8) 0) ∧
    stepNext (ready [0]) (fun t => t.status = .faulted (.illegalInstruction 0) 0) ∧
    ((ready []).raise (.unknownHelper 1)).status = .faulted (.unknownHelper 1) 0 :=
  ⟨rfl, ⟨_, rfl, by decide⟩, ⟨_, rfl, by decide⟩, rfl⟩

/-- A step that raises it, for each of the seven causes. -/
theorem test_witness_FaultCauses :
    stepNext (ready []) (fun t => t.status = .faulted (.pcOutOfRange 0) 0) ∧
    stepNext (ready [0x0F21000000000001]) (fun t => t.status = .faulted (.illegalInstruction 0x010000000000210F) 0) ∧
    stepNext { deepest with params := (ready [0x8510000000000000]).params }
      (fun t => t.status = .faulted (.callDepthExceeded 8) 0) ∧
    stepNext (ready [0x8500000008000000]) (fun t => t.status = .faulted (.unknownHelper 8) 0) ∧
    stepNext (ready [0xBF31000000000000]) (fun t => t.status = .faulted (.uninitRegisterRead .r3) 0) ∧
    stepNext (ready [0x7911010000000000]) (fun t => t.status = .faulted (.misalignedAccess 0xFFF9 8) 0) ∧
    stepNext (ready [0x7911080000000000]) (fun t => t.status = .faulted (.memoryAccessFault 0x10000 8 .read) 0) :=
  ⟨⟨_, rfl, by decide⟩, ⟨_, rfl, by decide⟩, ⟨_, rfl, by decide⟩, ⟨_, rfl, by decide⟩, ⟨_, rfl, by decide⟩,
   ⟨_, rfl, by decide⟩, ⟨_, rfl, by decide⟩⟩

theorem test_witness_OnlyExitAndPacketEndTheRun :
    (ready []).status = .running ∧ execNext .exit (ready []) (fun t => t.status = .exited 42) ∧
    execNext (.ldabsw (-1)) (ready []) (fun t => t.status = .exited 0) ∧
    execNext (.ldindb .r2 (-18)) (ready []) (fun t => t.status = .exited 0) :=
  ⟨rfl, ⟨_, rfl, by decide⟩, ⟨_, rfl, by decide⟩, ⟨_, rfl, by decide⟩⟩

theorem test_witness_RegistersChanged :
    execNext (.addReg .r1 .r2) (ready []) (fun t => t.regs.r1 = some 0x1001A ∧ Reg.r2 ∉ mayChange (.addReg .r1 .r2)) ∧
    execNext (.callLocal 0) (ready []) (fun _ => Reg.r1 ∉ mayChange (.callLocal 0)) :=
  ⟨⟨_, rfl, by decide⟩, ⟨_, rfl, by decide⟩⟩

theorem test_witness_FramePointerReadOnly :
    execNext (.movImm .r10 1) (ready []) (fun t => t.regs.r10 = 0x10000 ∧ (∀ d, Instr.movImm .r10 1 ≠ .callLocal d) ∧
      Instr.movImm .r10 1 ≠ .exit) :=
  ⟨_, rfl, by decide, nofun, nofun⟩

/-- The bytes on both sides of the stored ones, and an instruction that stores nothing. -/
theorem test_witness_MemoryChanged :
    execNext (.stxw .r1 .r2 4) (ready []) (fun _ => (∀ id, Instr.stxw .r1 .r2 4 ≠ .callHelper id) ∧
      accessRange (.stxw .r1 .r2 4) (ready []) = some (0xFFFC, 4, .write) ∧
      (0xFFFB < 0xFFFC) ∧ 0xFFFC + 4 ≤ 0x10000) ∧
    execNext (.movReg .r1 .r2) (ready []) (fun _ => accessRange (.movReg .r1 .r2) (ready []) = none) :=
  ⟨⟨_, rfl, nofun, by decide⟩, ⟨_, rfl, rfl⟩⟩

theorem test_witness_CallStackChanged :
    execNext (.movReg .r1 .r2) (ready []) (fun t => t.frames = []) ∧
    execNext (.callLocal 1) (ready []) (fun t => t.frames.length = 1) ∧
    execNext .exit (called []) (fun t => t.frames = []) :=
  ⟨⟨_, rfl, rfl⟩, ⟨_, rfl, rfl⟩, ⟨_, rfl, rfl⟩⟩

/-- A step whose ENV draw is a free value goes on, and the count of draws is one more. -/
theorem test_free_env_step : stepNext (readyEnv [0xBF21000000000000]) (fun t => t.draws = 1) := by
  show ∃ t, runStep (readyEnv [0xBF21000000000000]) = .next t ∧ t.draws = 1
  have hd : (readyEnv [0xBF21000000000000]).envStep.draws = 1 := by rw [State.envStep_draws]; rfl
  unfold runStep
  rw [State.envStep_eq, hd]
  exact ⟨_, rfl, rfl⟩

theorem test_witness_SpecialStateUnchanged :
    execNext (.movReg .r1 .r2) (ready []) (fun _ => ∀ id, Instr.movReg .r1 .r2 ≠ .callHelper id) ∧
    stepNext { readyEnv [0xBF21000000000000] with envDraws := [[[0, 1]], []] } (fun t => t.envDraws = [[]]) ∧
    (readyEnv [0xBF21000000000000]).params.env ≠ .identity ∧ (readyEnv [0xBF21000000000000]).envDraws = [] ∧
    stepNext (readyEnv [0xBF21000000000000]) (fun t => t.draws = 1) ∧
    stepNext (ready [0xBF21000000000000]) (fun t => t.params.env = .identity) :=
  ⟨⟨_, rfl, nofun⟩, ⟨_, rfl, rfl⟩, by decide, rfl, test_free_env_step, ⟨_, rfl, rfl⟩⟩

/-- Two registers with values: what the register forms of arithmetic and jumps, byte order and byte swap ask. -/
theorem test_witness_register_values :
    (ready []).regs.get .r1 = some 0xFFF8 ∧ (ready []).regs.get .r2 = some 0x22 ∧
    (0xFFF8 : Nat) = (0xFFF8#64).toNat % 2 ^ 32 ∧ (0x22#32) = BitVec.ofNat 32 (0x22#64).toNat ∧
    (0xFFFFFFFFFFFFFFFF : Word) = BitVec.ofInt 64 (0xFFFFFFFF#32).toInt := by decide

theorem test_witness_LoadImmediate64 : Reg.r9 ≠ .r10 := by decide

/-- An absolute and an indirect load of the last bytes of the packet. -/
theorem test_witness_PacketLoadsComplete :
    (ready []).regs.r6 = some (ready []).params.ctx ∧ (12#32).toInt = (12 : Nat) ∧
    12 + 4 ≤ (ready []).params.packet.length ∧ (ready []).regs.get .r2 = some 0x22 ∧
    (BitVec.ofInt 32 ((0x22#64).toInt + (-20#32).toInt)).toInt = (14 : Nat) ∧
    14 + 2 ≤ (ready []).params.packet.length := by decide

/-- One past the last index, one below the first, and another value in r6. -/
theorem test_witness_PacketLoadsOutsideEndTheRun :
    (ready []).regs.r6 = some (ready []).params.ctx ∧ (ready []).regs.get .r2 = some 0x22 ∧
    ((ready []).params.packet.length : Int) < (13#32).toInt + 4 ∧ (-1#32).toInt < 0 ∧
    ((ready []).params.packet.length : Int) < (BitVec.ofInt 32 ((0x22#64).toInt + (-19#32).toInt)).toInt + 2 ∧
    (withRegs (ready []) none none (some 1) (some 3)).regs.r6 = some 3 ∧ (3 : Word) ≠ (ready []).params.ctx := by decide

/-- The last aligned bytes of the region, and a misaligned access that may be split. -/
theorem test_witness_LoadsComplete :
    ((ready []).regs.get .r1 = some 0xFFF8 ∧ readySplit.regs.get .r1 = some 0xFFF8) ∧
    (0xFFF8 = (0xFFF8#64 + BitVec.ofInt 64 (0#16).toInt).toNat ∧ CanAccess (ready []).params 0xFFF8 8 .read) ∧
    (0xFFFF = (0xFFF8#64 + BitVec.ofInt 64 (7#16).toInt).toNat ∧ CanAccess (ready []).params 0xFFFF 1 .read) ∧
    (0xFFFB = (0xFFF8#64 + BitVec.ofInt 64 (3#16).toInt).toNat ∧ CanAccess readySplit.params 0xFFFB 4 .read) :=
  ⟨⟨rfl, rfl⟩, ⟨by decide, .inl (by decide)⟩, ⟨by decide, .inl (by decide)⟩,
   ⟨by decide, .inr ⟨by decide, by decide, rfl, by decide⟩⟩⟩

theorem test_witness_RegisterStoresComplete :
    (ready []).regs.get .r1 = some 0xFFF8 ∧ (ready []).regs.get .r2 = some 0x22 ∧
    CanAccess (ready []).params 0xFFF8 8 .write ∧ CanAccess readySplit.params 0xFFFD 2 .write :=
  ⟨rfl, rfl, .inl (by decide), .inr ⟨by decide, by decide, rfl, by decide⟩⟩

theorem test_witness_ImmediateStoresComplete :
    (ready []).regs.get .r10 = some 0x10000 ∧ 0xFFF8 = (0x10000#64 + BitVec.ofInt 64 (-8#16).toInt).toNat ∧
    CanAccess (ready []).params 0xFFF8 8 .write := by decide

/-- A misaligned access, one past the region, and a split access whose last byte is past it: offsets 1, 8 and 5 from
r1. -/
theorem test_witness_AccessFaults :
    dataAccess (.ldxw .r0 .r1 1) = some (.r1, 1, 4, .read) ∧
    (∀ q ∈ readOrder (.ldxw .r0 .r1 1), (ready []).regs.get q ≠ none) ∧ (ready []).regs.get .r1 = some 0xFFF8 ∧
    ((0xFFF9 : Word) = 0xFFF8 + BitVec.ofInt 64 (1#16).toInt ∧ 0xFFF9 % 4 ≠ 0 ∧ (ready []).params.align = .strict) ∧
    ((0x10000 : Word) = 0xFFF8 + BitVec.ofInt 64 (8#16).toInt ∧ 0x10000 % 4 = 0 ∧
      ¬InRegion (ready []).params 0x10000 4 .read) ∧
    (readySplit.regs.get .r1 = some 0xFFF8 ∧ (0xFFFD : Word) = 0xFFF8 + BitVec.ofInt 64 (5#16).toInt ∧ 0xFFFD % 4 ≠ 0 ∧
      readySplit.params.align = .split ∧ ∃ j < 4, ¬InRegion readySplit.params (0xFFFD + j) 1 .read) :=
  ⟨rfl, by decide, rfl, by decide, by decide, rfl, by decide, by decide, rfl, 3, by decide, by decide⟩

theorem test_witness_StoreThenLoad :
    (ready []).status = .running ∧ (ready []).regs.get .r1 = some 0xFFF8 ∧ (ready []).regs.get .r2 = some 0x22 ∧
    execNext (.stxdw .r1 .r2 0) (ready []) (fun t => t.status = .running) ∧ CanAccess (ready []).params 0xFFF8 8 .read ∧
    execNext (.stxb .r1 .r2 7) (ready []) (fun t => t.status = .running) ∧ CanAccess (ready []).params 0xFFFF 1 .read :=
  ⟨rfl, rfl, rfl, ⟨_, rfl, by decide⟩, by decide, ⟨_, rfl, by decide⟩, by decide⟩

theorem test_witness_MixedWidthAccess :
    (startIn .little).params.endian = .little ∧ (startIn .big).params.endian = .big := by decide

/-- The lowest and the highest bytes of the frame at depth 2. -/
theorem test_witness_StackFrameAccessible :
    launchOk (called [0]).params ∧ 0 < (called [0]).params.maxCallDepth ∧ Inv (called [0]) ∧
    (called [0]).regs.r10.toNat - (called [0]).params.stackSize ≤ 0xFC00 ∧ 0xFC00 + 8 ≤ (called [0]).regs.r10.toNat ∧
    0xFDF8 + 8 ≤ (called [0]).regs.r10.toNat := by decide

/-- One instruction for each way to set pc, a jump to a target outside the program among them. -/
theorem test_witness_PcUpdate :
    (called []).status = .running ∧ execNext (.jneReg .r1 .r2 (-5)) (called []) (fun t => t.status = .running) ∧
    execNext .exit (called []) (fun t => t.status = .running) ∧
    execNext (.lddw .r1 7) (called []) (fun t => t.status = .running) ∧
    execNext (.ja (-32768)) (called []) (fun t => t.status = .running) ∧
    execNext (.jal 100000) (called []) (fun t => t.status = .running) ∧
    execNext (.callLocal 3) (called []) (fun t => t.status = .running) ∧
    execNext (.addImm .r1 1) (called []) (fun t => t.status = .running) :=
  ⟨rfl, ⟨_, rfl, by decide⟩, ⟨_, rfl, by decide⟩, ⟨_, rfl, rfl⟩, ⟨_, rfl, rfl⟩, ⟨_, rfl, rfl⟩, ⟨_, rfl, rfl⟩,
   ⟨_, rfl, rfl⟩⟩

/-- The deepest call that goes on, and the first that does not. -/
theorem test_witness_LocalCallCompletes :
    { deepest with frames := deepest.frames.tail }.frames.length + 1 < (ready []).params.maxCallDepth ∧
    (ready []).params.maxCallDepth ≤ deepest.frames.length + 1 := by decide

/-- A helper that answers any value and writes it to the low end of the stack, twice, and beside every region. -/
def freeHelper : HelperRel :=
  .terms (.choice 0) [⟨.const 0xF000, .const 2, .index⟩, ⟨.const 0xF000, .const 1, .choice 0⟩, ⟨.const 0, .const 1, .const 7⟩]

/-- A call whose choices are fixed in advance, and one whose choices are a free value. -/
theorem test_witness_HelperCallCompletes :
    (ready []).params.helpers.lookup 7 = some sumHelper ∧ (ready []).helperDraws = [] ∧
    execNext (.callHelper 7)
      { ready [] with params := { (ready []).params with helpers := [(7, freeHelper)] }, helperDraws := [[6]] }
      (fun t => t.regs.r0 = some 6 ∧ t.mem = [(0xF000, 6), (0xF001, 1)] ∧ t.helperDraws = []) :=
  ⟨by decide, rfl, ⟨_, rfl, by decide⟩⟩

theorem test_witness_UnknownHelperFaults : ∀ e ∈ (ready []).params.helpers, e.1 ≠ (8 : BitVec 32) := by decide

theorem test_witness_ExitCompletes :
    (ready []).regs.r0 = some 42 ∧ (ready []).frames = [] ∧
    (called []).frames = [] ++ [⟨1, none, none, none, none, 0x10000⟩] := by decide

/-- A call, and an exit from a state in which the function has changed registers and memory. -/
theorem test_witness_CallThenExitRestores :
    (ready []).status = .running ∧
    execNext (.callLocal 5) (ready []) (fun t => t.status = .running ∧
      let w := { t with regs := { t.regs with r0 := some 1, r6 := some 2 }, mem := [(0xF000, 1)], pc := 20 }
      w.status = .running ∧ w.frames = t.frames ∧ w.regs.r0 = some 1 ∧ execNext .exit w fun u => u.pc = 1) :=
  ⟨rfl, _, rfl, rfl, rfl, rfl, rfl, _, rfl, rfl⟩

theorem test_witness_atomics :
    (ready []).regs.get .r1 = some 0xFFF8 ∧ (ready []).regs.get .r2 = some 0x22 ∧
    CanAccess (ready []).params 0xFFF8 8 .readwrite ∧ CanAccess (ready []).params 0xFFFC 4 .readwrite :=
  ⟨rfl, rfl, .inl (by decide), .inl (by decide)⟩

/-- A memory value that r0 matches, at either width, and one that it does not. -/
theorem test_witness_CompareAndSwapCompletes :
    let s := { ready [] with mem := Memory.setBytes [] 0xFFF8 [42, 0, 0, 0, 0, 0, 0, 0] }
    let n := { ready [] with mem := Memory.setBytes [] 0xFFF8 [43, 0, 0, 0, 0, 0, 0, 0] }
    s.regs.r0 = some 42 ∧ memNat s 0xFFF8 8 = (42#64).toNat % 2 ^ 64 ∧ memNat s 0xFFF8 4 = (42#64).toNat % 2 ^ 32 ∧
    memNat n 0xFFF8 8 ≠ (42#64).toNat % 2 ^ 64 ∧ memNat n 0xFFF8 4 ≠ (42#64).toNat % 2 ^ 32 := by decide

/-- The first missing register in order; an instruction that leaves r1; a read that draws a free value. -/
theorem test_witness_UninitRegisterReads :
    (ready []).params.uninit = .fault ∧
    (readOrder (.acmp .r1 .r3 0)).find? (fun q => (ready []).regs.get q == none) = some .r3 ∧
    execNext (.movReg .r1 .r2) (ready []) (fun _ => packetBytes (.movReg .r1 .r2) = none ∧ (ready []).regs.r1 ≠ none) ∧
    (readyAny.status = .running ∧ readyAny.params.uninit = .any ∧ readyAny.regs.get .r3 = none ∧
      execNext (.movReg .r1 .r3) readyAny fun t => t.status = .running) ∧
    execNext (.callHelper 7) (ready []) (fun t => t.status = .running) :=
  ⟨rfl, by decide, ⟨_, rfl, by decide⟩, ⟨rfl, rfl, rfl, _, rfl, rfl⟩, ⟨_, rfl, rfl⟩⟩

theorem test_witness_UninitAnyReadsFreeValues :
    readyAny.params.uninit = .any ∧ readyAny.regs.get .r3 = none ∧ readyAny.regs.get .r4 = none ∧
    (withRegs readyAny none none none none).regs.r0 = none ∧ readyAny.frames = [] ∧
    (∀ id, Instr.addReg .r3 .r3 ≠ .callHelper id) ∧
    execNext (.addReg .r3 .r3) readyAny (fun t => t.draws = 2 ∧ ∀ c p, t.status ≠ .faulted c p) :=
  ⟨rfl, rfl, rfl, rfl, rfl, nofun, _, rfl, rfl, nofun⟩

/-- Moves that write a shared byte twice and a byte that is not shared; a draw that is a free value; the identity. -/
theorem test_witness_EnvTouchesSharedMemoryOnly :
    (let s := { readyEnv [] with envDraws := [[[0xF000, 1], [0, 2], [0xF000, 3]]] }
     isShared s.params 0xF000 = true ∧ isShared s.params 0 = false ∧ s.params.env ≠ .identity ∧
     s.envStep.mem = [(0xF000, 3)] ∧ s.envStep.envDraws = []) ∧
    (readyEnv []).envDraws = [] ∧ (ready []).params.env = .identity := by decide

theorem test_witness_LaunchState :
    let mem0 : Memory := [(0xF000, 1)]
    let s := State.launch { resetParams with env := anyByte, helpers := [(7, sumHelper)] } mem0 [[[0xF000, 2]]] [[3]]
    mem0.get 0xF000 = some 1 ∧ mem0.get 0xF001 = none ∧ s.params.env = anyByte ∧
    s.params.helpers = [(7, sumHelper)] ∧ s.envDraws = [[[0xF000, 2]]] ∧ s.helperDraws = [[3]] := by decide

/-- A result and a memory that the free helper relates to what is there. -/
theorem test_witness_EveryHelperOutcomeCanHappen :
    let s := { ready [] with params := { (ready []).params with helpers := [(7, freeHelper)] } }
    s.params.helpers.lookup 7 = some freeHelper ∧
    ∃ mem', HelperRelates s.params freeHelper [s.regs.r1, s.regs.r2, s.regs.r3, s.regs.r4, s.regs.r5] s.byteAt 6 mem' ∧
      mem' 0xF000 = 6 :=
  ⟨by decide, _, ⟨[6], rfl, rfl⟩, by decide⟩

/-- One move, and a chain of two. -/
theorem test_witness_EveryEnvMoveCanHappen :
    let s := readyEnv []
    EnvRelates s.params s.byteAt (s.envMove [0xF000, 1]).byteAt ∧ (s.envMove [0xF000, 1]).byteAt 0xF000 = 1 ∧
    Relation.ReflTransGen (EnvRelates s.params) s.byteAt ((s.envMove [0xF000, 1]).envMove [0xF001, 2]).byteAt :=
  ⟨State.envMove_relates .., by decide,
   .tail (.single (State.envMove_relates ..)) (State.envMove_relates (State.envMove (readyEnv []) _) _)⟩

/-- A store, and the byte just past the stored ones. -/
theorem test_witness_UnwrittenBytesAreFixed :
    (ready [0x6321000000000000]).params.env = .identity ∧ fetchInstr (ready [0x6321000000000000]) = .ok (.stxw .r1 .r2 0) ∧
    stepNext (ready [0x6321000000000000]) (fun t => t.status = .running) ∧
    accessRange (.stxw .r1 .r2 0) (ready [0x6321000000000000]) = some (0xFFF8, 4, .write) ∧ 0xFFF8 + 4 ≤ 0xFFFC :=
  ⟨rfl, rfl, ⟨_, rfl, by decide⟩, by decide, by decide⟩

end Sys2Proof.Tests
end

section
/-! The family of data memory: a narrow read inside the bytes of a wider store, in either byte order (rules R60, R61). -/

namespace Sys2Proof.Machine

/-- The bytes at a + i to a + i + k - 1 are a stretch of the n bytes at a. -/
theorem State.bytesAt_add (s : State) (a : Nat) {n i k : Nat} (h : i + k ≤ n) :
    s.bytesAt (a + i) k = ((s.bytesAt a n).drop i).take k := by
  apply List.ext_getElem
  · simp only [State.length_bytesAt, List.length_take, List.length_drop]; omega
  · intro j _ _
    rw [List.getElem_take, List.getElem_drop, State.getElem_bytesAt, State.getElem_bytesAt, Nat.add_assoc]

/-- Bytes i to i + k - 1 of a number are the k low bytes of its quotient by 256^i. -/
theorem take_drop_littleBytes (v : Nat) {n i k : Nat} (h : i + k ≤ n) :
    ((littleBytes n v).drop i).take k = littleBytes k (v / 256 ^ i) := by
  apply List.ext_getElem
  · simp only [length_littleBytes, List.length_take, List.length_drop]; omega
  · intro j _ _
    rw [List.getElem_take, List.getElem_drop, getElem_littleBytes, getElem_littleBytes, Nat.div_div_eq_div_mul,
      Nat.pow_add]

/-- A stretch of k entries of a reversed list is the stretch with as many entries after it as the first had before
it, reversed. -/
theorem take_drop_reverse {α : Type} (l : List α) {i j k : Nat} (h : i + k + j = l.length) :
    (l.reverse.drop i).take k = ((l.drop j).take k).reverse := by
  rw [List.drop_reverse, List.take_reverse, List.drop_take, List.length_take]
  congr <;> omega

/-- The k bytes of a number from its byte j on spell the bits of the number from bit 8j on. -/
theorem ofNat_littleValue_littleBytes {n : Nat} (k j : Nat) (v : BitVec (8 * n)) :
    BitVec.ofNat (8 * k) (littleValue (littleBytes k (v.toNat / 256 ^ j))) = v.extractLsb' (8 * j) (8 * k) := by
  have pow256 (m : Nat) : 256 ^ m = 2 ^ (8 * m) := by rw [pow_mul]; norm_num
  apply BitVec.eq_of_toNat_eq
  rw [littleValue_littleBytes, BitVec.toNat_ofNat, BitVec.extractLsb'_toNat, Nat.shiftRight_eq_div_pow, pow256, pow256,
    Nat.mod_mod]

/-- On a little-endian machine, k bytes read i bytes into a stored value are its bits from bit 8i on (rules R60, R61). -/
theorem State.valueAt_storeAt_little {s : State} (he : s.params.endian = .little) (a : Nat) {n i k : Nat}
    (v : BitVec (8 * n)) (h : i + k ≤ n) :
    (s.storeAt a n v).valueAt (a + i) k = v.extractLsb' (8 * i) (8 * k) := by
  rw [State.valueAt, State.storeAt_params, State.bytesAt_add _ _ h, State.bytesAt_storeAt, he]
  simp only [inOrder]
  rw [take_drop_littleBytes _ h, ofNat_littleValue_littleBytes]

/-- On a big-endian machine, k bytes of a stored value are its bits from bit 8j on, for the j stored bytes that come
after them (rules R60, R61). -/
theorem State.valueAt_storeAt_big {s : State} (he : s.params.endian = .big) (a j : Nat) {n i k : Nat}
    (v : BitVec (8 * n)) (h : i + k + j = n) :
    (s.storeAt a n v).valueAt (a + i) k = v.extractLsb' (8 * j) (8 * k) := by
  rw [State.valueAt, State.storeAt_params, State.bytesAt_add _ _ (show i + k ≤ n by omega), State.bytesAt_storeAt, he]
  simp only [inOrder]
  rw [take_drop_reverse _ (by simpa using h), List.reverse_reverse, take_drop_littleBytes _ (by omega),
    ofNat_littleValue_littleBytes]

/-- Settles O38: each narrow read is a stretch of bits of the stored value, the one that the byte order says. -/
theorem mixedWidthAccess : Obligations.MixedWidthAccess := by
  rintro s t a rfl
  refine ⟨fun he => ⟨?_, ?_, ?_⟩, fun he => ⟨?_, ?_, ?_⟩⟩
  · exact (State.valueAt_storeAt_little he a (i := 0) _ (by decide)).trans (by decide)
  · exact (State.valueAt_storeAt_little he a _ (by decide)).trans (by decide)
  · exact (State.valueAt_storeAt_little he a (i := 0) _ (by decide)).trans (by decide)
  · exact (State.valueAt_storeAt_big he a 4 (i := 0) _ (by decide)).trans (by decide)
  · exact (State.valueAt_storeAt_big he a 2 _ (by decide)).trans (by decide)
  · exact (State.valueAt_storeAt_big he a 7 (i := 0) _ (by decide)).trans (by decide)

end Sys2Proof.Machine
end

section
/-! The family of the encoding: what each format of rule R108 accepts, the two directions between the rows of the opcode
table and `encodeFirst`, decoding in terms of the fields alone, and which register numbers a row accepts. -/

namespace Sys2Proof
open Machine

/-! ### Register fields and fixed fields -/

theorem Reg.ofNum_eq_some_iff {n : BitVec 4} {r : Reg} : Reg.ofNum n = some r ↔ r.num = n :=
  ⟨Reg.num_of_ofNum, fun h => h ▸ Reg.ofNum_num r⟩

theorem Reg.num_eq_ten_iff {r : Reg} : r.num = 10 ↔ r = .r10 := by cases r <;> decide

theorem fixed_eq_ok_iff {c : Bool} {r : Except Illegal Instr} {i : Instr} :
    fixed c r = .ok i ↔ c = true ∧ r = .ok i := by
  cases c <;> simp [fixed]

theorem withDst_num (c : BitVec 8) (d : Reg) (s : BitVec 4) (o : BitVec 16) (v : BitVec 32) (mk : Reg → Instr) :
    withDst ⟨c, d.num, s, o, v⟩ mk = .ok (mk d) := by
  simp [withDst]

theorem withSrc_num (c : BitVec 8) (d : BitVec 4) (s : Reg) (o : BitVec 16) (v : BitVec 32) (mk : Reg → Instr) :
    withSrc ⟨c, d, s.num, o, v⟩ mk = .ok (mk s) := by
  simp [withSrc]

theorem withRegs_num (c : BitVec 8) (d s : Reg) (o : BitVec 16) (v : BitVec 32) (mk : Reg → Reg → Instr) :
    withRegs ⟨c, d.num, s.num, o, v⟩ mk = .ok (mk d s) := by
  simp [withRegs]

theorem withDst_eq_ok_iff {f : Fields} {mk : Reg → Instr} {i : Instr} :
    withDst f mk = .ok i ↔ ∃ d : Reg, d.num = f.dst ∧ mk d = i := by
  unfold withDst
  split
  next d hd => simp [← Reg.ofNum_eq_some_iff, hd]
  next hd => simp [← Reg.ofNum_eq_some_iff, hd]

theorem withSrc_eq_ok_iff {f : Fields} {mk : Reg → Instr} {i : Instr} :
    withSrc f mk = .ok i ↔ ∃ s : Reg, s.num = f.src ∧ mk s = i := by
  unfold withSrc
  split
  next s hs => simp [← Reg.ofNum_eq_some_iff, hs]
  next hs => simp [← Reg.ofNum_eq_some_iff, hs]

theorem withRegs_eq_ok_iff {f : Fields} {mk : Reg → Reg → Instr} {i : Instr} :
    withRegs f mk = .ok i ↔ ∃ d s : Reg, d.num = f.dst ∧ s.num = f.src ∧ mk d s = i := by
  unfold withRegs
  split
  next d s hd hs => simp [← Reg.ofNum_eq_some_iff, hd, hs]
  next h =>
    simp only [reduceCtorEq, ← Reg.ofNum_eq_some_iff, false_iff]
    rintro ⟨d, s, hd, hs, -⟩
    exact h d s hd hs

/-! ### From fields to an instruction and back

What a format answers is encoded by the fields it was read from. -/

/-- Every instruction that `r` answers has the fields `f` (of its first slot). -/
structure Emits (f : Fields) (r : Except Illegal Instr) : Prop where
  encodeFirst_eq : ∀ {i}, r = .ok i → encodeFirst i = f

theorem error_emits {f : Fields} {e : Illegal} : Emits f (.error e) := ⟨nofun⟩

theorem ok_emits {f : Fields} {i : Instr} (h : encodeFirst i = f) : Emits f (.ok i) :=
  ⟨fun hi => Except.ok.inj hi ▸ h⟩

theorem fixed_emits {f : Fields} {c : Bool} {r : Except Illegal Instr} (h : c = true → Emits f r) :
    Emits f (fixed c r) := by
  refine ⟨fun hi => ?_⟩
  obtain ⟨hc, hr⟩ := fixed_eq_ok_iff.1 hi
  exact (h hc).encodeFirst_eq hr

theorem withDst_emits {f : Fields} {mk : Reg → Instr}
    (h : ∀ d, encodeFirst (mk d) = { f with dst := d.num }) : Emits f (withDst f mk) := by
  refine ⟨fun hi => ?_⟩
  obtain ⟨d, hd, rfl⟩ := withDst_eq_ok_iff.1 hi
  rw [h, hd]

theorem withSrc_emits {f : Fields} {mk : Reg → Instr}
    (h : ∀ s, encodeFirst (mk s) = { f with src := s.num }) : Emits f (withSrc f mk) := by
  refine ⟨fun hi => ?_⟩
  obtain ⟨s, hs, rfl⟩ := withSrc_eq_ok_iff.1 hi
  rw [h, hs]

theorem withRegs_emits {f : Fields} {mk : Reg → Reg → Instr}
    (h : ∀ d s, encodeFirst (mk d s) = { f with dst := d.num, src := s.num }) : Emits f (withRegs f mk) := by
  refine ⟨fun hi => ?_⟩
  obtain ⟨d, s, hd, hs, rfl⟩ := withRegs_eq_ok_iff.1 hi
  rw [h, hd, hs]

theorem fmtAluR_emits {f : Fields} {mk : Reg → Reg → Instr}
    (h : ∀ d s, encodeFirst (mk d s) = ⟨f.opcode, d.num, s.num, 0, 0⟩) : Emits f (fmtAluR f mk) := by
  obtain ⟨c, d, s, o, v⟩ := f
  refine fixed_emits fun hz => ?_
  obtain ⟨rfl, rfl⟩ : o = 0 ∧ v = 0 := by simpa using hz
  exact withRegs_emits h

theorem fmtMov_emits {f : Fields} {mk mk8 mk16 mk32 : Reg → Reg → Instr}
    (h : ∀ d s, encodeFirst (mk d s) = ⟨f.opcode, d.num, s.num, 0, 0⟩)
    (h8 : ∀ d s, encodeFirst (mk8 d s) = ⟨f.opcode, d.num, s.num, 8, 0⟩)
    (h16 : ∀ d s, encodeFirst (mk16 d s) = ⟨f.opcode, d.num, s.num, 16, 0⟩)
    (h32 : ∀ d s, encodeFirst (mk32 d s) = ⟨f.opcode, d.num, s.num, 32, 0⟩) :
    Emits f (fmtMov f mk mk8 mk16 mk32) := by
  obtain ⟨c, d, s, o, v⟩ := f
  refine fixed_emits fun hz => ?_
  obtain rfl : v = 0 := by simpa using hz
  dsimp only
  split <;> rename_i ho
  · exact withRegs_emits (BitVec.eq_of_toNat_eq ho (y := 0) ▸ h)
  · exact withRegs_emits (BitVec.eq_of_toNat_eq ho (y := 8) ▸ h8)
  · exact withRegs_emits (BitVec.eq_of_toNat_eq ho (y := 16) ▸ h16)
  · exact withRegs_emits (BitVec.eq_of_toNat_eq ho (y := 32) ▸ h32)
  · exact error_emits

theorem fmtAluI_emits {f : Fields} {mk : Reg → BitVec 32 → Instr}
    (h : ∀ d v, encodeFirst (mk d v) = ⟨f.opcode, d.num, 0, 0, v⟩) : Emits f (fmtAluI f mk) := by
  obtain ⟨c, d, s, o, v⟩ := f
  refine fixed_emits fun hz => ?_
  obtain ⟨rfl, rfl⟩ : s = 0 ∧ o = 0 := by simpa using hz
  exact withDst_emits fun d => h d v

theorem fmtAluU_emits {f : Fields} {mk : Reg → Instr}
    (h : ∀ d, encodeFirst (mk d) = ⟨f.opcode, d.num, 0, 0, 0⟩) : Emits f (fmtAluU f mk) := by
  obtain ⟨c, d, s, o, v⟩ := f
  refine fixed_emits fun hz => ?_
  obtain ⟨⟨rfl, rfl⟩, rfl⟩ : (s = 0 ∧ o = 0) ∧ v = 0 := by simpa using hz
  exact withDst_emits h

theorem fmtEnd_emits {f : Fields} {mk16 mk32 mk64 : Reg → Instr}
    (h16 : ∀ d, encodeFirst (mk16 d) = ⟨f.opcode, d.num, 0, 0, 16⟩)
    (h32 : ∀ d, encodeFirst (mk32 d) = ⟨f.opcode, d.num, 0, 0, 32⟩)
    (h64 : ∀ d, encodeFirst (mk64 d) = ⟨f.opcode, d.num, 0, 0, 64⟩) : Emits f (fmtEnd f mk16 mk32 mk64) := by
  obtain ⟨c, d, s, o, v⟩ := f
  refine fixed_emits fun hz => ?_
  obtain ⟨rfl, rfl⟩ : s = 0 ∧ o = 0 := by simpa using hz
  dsimp only
  split <;> rename_i hv
  · exact withDst_emits (BitVec.eq_of_toNat_eq hv (y := 16) ▸ h16)
  · exact withDst_emits (BitVec.eq_of_toNat_eq hv (y := 32) ▸ h32)
  · exact withDst_emits (BitVec.eq_of_toNat_eq hv (y := 64) ▸ h64)
  · exact error_emits

theorem fmtLdabs_emits {f : Fields} {mk : BitVec 32 → Instr}
    (h : ∀ v, encodeFirst (mk v) = ⟨f.opcode, 0, 0, 0, v⟩) : Emits f (fmtLdabs f mk) := by
  obtain ⟨c, d, s, o, v⟩ := f
  refine fixed_emits fun hz => ?_
  obtain ⟨⟨rfl, rfl⟩, rfl⟩ : (d = 0 ∧ s = 0) ∧ o = 0 := by simpa using hz
  exact ok_emits (h v)

theorem fmtLdind_emits {f : Fields} {mk : Reg → BitVec 32 → Instr}
    (h : ∀ s v, encodeFirst (mk s v) = ⟨f.opcode, 0, s.num, 0, v⟩) : Emits f (fmtLdind f mk) := by
  obtain ⟨c, d, s, o, v⟩ := f
  refine fixed_emits fun hz => ?_
  obtain ⟨rfl, rfl⟩ : d = 0 ∧ o = 0 := by simpa using hz
  exact withSrc_emits fun s => h s v

theorem fmtMem_emits {f : Fields} {mk : Reg → Reg → BitVec 16 → Instr}
    (h : ∀ d s o, encodeFirst (mk d s o) = ⟨f.opcode, d.num, s.num, o, 0⟩) : Emits f (fmtMem f mk) := by
  obtain ⟨c, d, s, o, v⟩ := f
  refine fixed_emits fun hz => ?_
  obtain rfl : v = 0 := by simpa using hz
  exact withRegs_emits fun d s => h d s o

theorem fmtSt_emits {f : Fields} {mk : Reg → BitVec 16 → BitVec 32 → Instr}
    (h : ∀ d o v, encodeFirst (mk d o v) = ⟨f.opcode, d.num, 0, o, v⟩) : Emits f (fmtSt f mk) := by
  obtain ⟨c, d, s, o, v⟩ := f
  refine fixed_emits fun hz => ?_
  obtain rfl : s = 0 := by simpa using hz
  exact withDst_emits fun d => h d o v

theorem fmtJccI_emits {f : Fields} {mk : Reg → BitVec 32 → BitVec 16 → Instr}
    (h : ∀ d v o, encodeFirst (mk d v o) = ⟨f.opcode, d.num, 0, o, v⟩) : Emits f (fmtJccI f mk) := by
  obtain ⟨c, d, s, o, v⟩ := f
  refine fixed_emits fun hz => ?_
  obtain rfl : s = 0 := by simpa using hz
  exact withDst_emits fun d => h d v o

theorem fmtJa16_emits {f : Fields} {mk : BitVec 16 → Instr}
    (h : ∀ o, encodeFirst (mk o) = ⟨f.opcode, 0, 0, o, 0⟩) : Emits f (fmtJa16 f mk) := by
  obtain ⟨c, d, s, o, v⟩ := f
  refine fixed_emits fun hz => ?_
  obtain ⟨⟨rfl, rfl⟩, rfl⟩ : (d = 0 ∧ s = 0) ∧ v = 0 := by simpa using hz
  exact ok_emits (h o)

theorem fmtJa32_emits {f : Fields} {mk : BitVec 32 → Instr}
    (h : ∀ v, encodeFirst (mk v) = ⟨f.opcode, 0, 0, 0, v⟩) : Emits f (fmtJa32 f mk) :=
  fmtLdabs_emits h

theorem fmtCall_emits {f : Fields} {mkLocal mkHelper : BitVec 32 → Instr}
    (hl : ∀ v, encodeFirst (mkLocal v) = ⟨f.opcode, 0, 1, 0, v⟩)
    (hh : ∀ v, encodeFirst (mkHelper v) = ⟨f.opcode, 0, 0, 0, v⟩) : Emits f (fmtCall f mkLocal mkHelper) := by
  obtain ⟨c, d, s, o, v⟩ := f
  refine fixed_emits fun hz => ?_
  obtain ⟨rfl, rfl⟩ : d = 0 ∧ o = 0 := by simpa using hz
  dsimp only
  split <;> rename_i hs
  · exact ok_emits (BitVec.eq_of_toNat_eq hs (y := 0) ▸ hh v)
  · exact ok_emits (BitVec.eq_of_toNat_eq hs (y := 1) ▸ hl v)
  · exact error_emits

theorem fmtExit_emits {f : Fields} {mk : Instr} (h : encodeFirst mk = ⟨f.opcode, 0, 0, 0, 0⟩) :
    Emits f (fmtExit f mk) := by
  obtain ⟨c, d, s, o, v⟩ := f
  refine fixed_emits fun hz => ?_
  obtain ⟨⟨⟨rfl, rfl⟩, rfl⟩, rfl⟩ : ((d = 0 ∧ s = 0) ∧ o = 0) ∧ v = 0 := by simpa using hz
  exact ok_emits h

theorem fmtAtomic64_emits {f : Fields} (h : f.opcode = 0xDB) : Emits f (fmtAtomic64 f) := by
  obtain ⟨c, d, s, o, v⟩ := f
  obtain rfl : c = 0xDB := h
  unfold fmtAtomic64
  split <;> rename_i hv
  case h_11 => exact error_emits -- no row has the selector
  all_goals
    obtain ⟨-, rfl⟩ := BitVec.toNat_eq_nat.1 hv
    exact withRegs_emits fun _ _ => rfl

theorem fmtAtomic32_emits {f : Fields} (h : f.opcode = 0xC3) : Emits f (fmtAtomic32 f) := by
  obtain ⟨c, d, s, o, v⟩ := f
  obtain rfl : c = 0xC3 := h
  unfold fmtAtomic32
  split <;> rename_i hv
  case h_11 => exact error_emits -- no row has the selector
  all_goals
    obtain ⟨-, rfl⟩ := BitVec.toNat_eq_nat.1 hv
    exact withRegs_emits fun _ _ => rfl

theorem lddw_emits {f : Fields} (h : f.opcode = 0x18) : Emits f (fmtAluI f fun d lo => .lddw d (0#32 ++ lo)) :=
  fmtAluI_emits fun d lo => by
    rw [h, encodeFirst, extract_append_low]

/-- What a row answers is encoded by the very fields it was read from. -/
theorem decodeRow_emits (f : Fields) : Emits f (decodeRow f) := by
  obtain ⟨c, d, s, o, v⟩ := f
  unfold decodeRow
  dsimp only
  split
  case h_127 => exact error_emits -- no row has the opcode
  all_goals
    rename_i hop
    obtain ⟨-, rfl⟩ := BitVec.toNat_eq_nat.1 hop
    apply_rules only [lddw_emits, fmtAluR_emits, fmtMov_emits, fmtAluI_emits, fmtAluU_emits, fmtEnd_emits,
      fmtLdabs_emits, fmtLdind_emits, fmtMem_emits, fmtSt_emits, fmtJccI_emits, fmtJa16_emits, fmtJa32_emits,
      fmtCall_emits, fmtExit_emits, fmtAtomic64_emits, fmtAtomic32_emits]
    all_goals (intros; rfl)

/-! ### From an instruction to fields and back -/

/-- What the first slot of an instruction decodes to: the instruction, without the high half of its immediate. -/
def Instr.ofFirstSlot : Instr → Instr
  | .lddw rd imm => .lddw rd (0#32 ++ imm.extractLsb' 0 32)
  | i => i

/-- The first slot of an encoding matches the row of its instruction. The cases are grouped by the register fields that the
format has: both, dst, src or none. -/
theorem decodeRow_encodeFirst (i : Instr) : decodeRow (encodeFirst i) = .ok i.ofFirstSlot := by
  cases i <;> dsimp only [encodeFirst, decodeRow]
  case addReg | subReg | mulReg | divReg | modReg | andReg | orReg | xorReg | lshReg | rshReg | arshReg | movReg |
      movs8 | movs16 | movs32 | add32Reg | sub32Reg | mul32Reg | div32Reg | mod32Reg | and32Reg | or32Reg | xor32Reg |
      lsh32Reg | rsh32Reg | arsh32Reg | mov32Reg | mov32s8 | mov32s16 | mov32s32 | ldxdw | ldxw | ldxh | ldxb | ldxsdw
      | ldxsw | ldxsh | ldxsb | stxdw | stxw | stxh | stxb | jeqReg | jgtReg | jgeReg | jltReg | jleReg | jsetReg |
      jneReg | jsgtReg | jsgeReg | jsltReg | jsleReg | jeq32Reg | jgt32Reg | jge32Reg | jlt32Reg | jle32Reg |
      jset32Reg | jne32Reg | jsgt32Reg | jsge32Reg | jslt32Reg | jsle32Reg | acmp | axchg | aadd | aor | aand | axor |
      afadd | afor | afand | afxor | acmp32 | axchg32 | aadd32 | aor32 | aand32 | axor32 | afadd32 | afor32 | afand32
      | afxor32 =>
    exact withRegs_num ..
  case addImm | subImm | mulImm | divImm | modImm | andImm | orImm | xorImm | lshImm | rshImm | arshImm | neg | movImm
      | add32Imm | sub32Imm | mul32Imm | div32Imm | mod32Imm | and32Imm | or32Imm | xor32Imm | lsh32Imm | rsh32Imm |
      arsh32Imm | neg32 | mov32Imm | endle16 | endle32 | endle64 | endbe16 | endbe32 | endbe64 | bswap16 | bswap32 |
      bswap64 | stdw | stw | sth | stb | jeqImm | jgtImm | jgeImm | jltImm | jleImm | jsetImm | jneImm | jsgtImm |
      jsgeImm | jsltImm | jsleImm | jeq32Imm | jgt32Imm | jge32Imm | jlt32Imm | jle32Imm | jset32Imm | jne32Imm |
      jsgt32Imm | jsge32Imm | jslt32Imm | jsle32Imm =>
    exact withDst_num ..
  case ldindw | ldindh | ldindb =>
    exact withSrc_num ..
  case lddw => exact withDst_num ..
  case ldabsw | ldabsh | ldabsb | ja | jal | callLocal | callHelper | exit =>
    rfl

/-! ### What the fields say of an instruction -/

/-- The instruction writes the register in dst: the classes ALU, ALU64 and LDX, and `lddw` (rules R24, R122). -/
abbrev Fields.WritesDst (f : Fields) : Prop :=
  f.opcode.extractLsb' 0 3 = 4 ∨ f.opcode.extractLsb' 0 3 = 7 ∨ f.opcode.extractLsb' 0 3 = 1 ∨ f.opcode = 0x18

/-- The slot is an atomic one. -/
abbrev Fields.IsAtomic (f : Fields) : Prop := f.opcode = 0xC3 ∨ f.opcode = 0xDB

/-- The selector is that of a fetching atomic or an exchange, which writes the register in src (rules R104, R122). -/
abbrev Fields.Fetches (f : Fields) : Prop :=
  f.imm = 0x01 ∨ f.imm = 0x41 ∨ f.imm = 0x51 ∨ f.imm = 0xA1 ∨ f.imm = 0xE1

/-- The slot is legal from version 3 on only (rule R123). -/
abbrev Fields.Gated (f : Fields) : Prop :=
  (f.opcode.extractLsb' 0 3 = 6 ∧ f.opcode ≠ 0x06) ∨ (f.IsAtomic ∧ f.imm ≠ 0)

/-- The number of the register that an instruction with these fields writes as an operand. -/
def Fields.written (f : Fields) : Option (BitVec 4) :=
  if f.WritesDst then some f.dst else if f.IsAtomic ∧ f.Fetches then some f.src else none

/-- The operand an instruction writes is the register that the fields of its encoding say. -/
theorem map_num_writtenOperand (i : Instr) : (writtenOperand i).map Reg.num = (encodeFirst i).written := by
  cases i <;> simp [encodeFirst, writtenOperand, Fields.written, Fields.WritesDst, Fields.IsAtomic, Fields.Fetches]

theorem writtenOperand_eq_r10_iff (i : Instr) : writtenOperand i = some .r10 ↔ (encodeFirst i).written = some 10 := by
  rw [← map_num_writtenOperand]
  cases writtenOperand i with
  | none => simp
  | some r => simpa using Reg.num_eq_ten_iff.symm

/-- The instructions of version 3 are those whose fields are gated. -/
theorem needsV3_eq (i : Instr) : needsV3 i = decide (encodeFirst i).Gated := by
  cases i <;> simp [encodeFirst, needsV3, Fields.Gated, Fields.IsAtomic]

theorem encodeFirst_of_decodeRow {f : Fields} {i : Instr} (h : decodeRow f = .ok i) : encodeFirst i = f :=
  (decodeRow_emits f).encodeFirst_eq h

/-- Decoding after the row has been found, in terms of the fields alone (steps (5) to (7) of rule R116). -/
theorem decode_of_decodeRow {f : Fields} {i : Instr} (h : decodeRow f = .ok i) (version : Nat) (next : Option Fields) :
    decode version f next =
      if f.written = some 10 then .error .writesR10
      else if f.Gated ∧ version < 3 then .error .versionTooLow
      else decodeSecond i next := by
  obtain rfl := encodeFirst_of_decodeRow h
  simp only [decode, h, writtenOperand_eq_r10_iff, needsV3_eq, Bool.and_eq_true, decide_eq_true_eq]

theorem decode_eq_ok_iff {version : Nat} {f : Fields} {next : Option Fields} {i : Instr} :
    decode version f next = .ok i ↔ ∃ k, decodeRow f = .ok k ∧ f.written ≠ some 10 ∧ (f.Gated → 3 ≤ version) ∧
      decodeSecond k next = .ok i := by
  cases hr : decodeRow f with
  | error e => simp [decode, hr]
  | ok k =>
    simp only [decode_of_decodeRow hr, Except.ok.injEq, exists_eq_left']
    split_ifs with hw hg
    · simp only [false_iff]
      exact fun ⟨hne, _⟩ => hne hw
    · simp only [false_iff]
      exact fun ⟨_, hv, _⟩ => absurd (hv hg.1) (by omega)
    · exact ⟨fun h => ⟨hw, fun hgated => Nat.le_of_not_lt fun hv => hg ⟨hgated, hv⟩, h⟩, fun ⟨_, _, h⟩ => h⟩

/-- Decoding asks for the version of a gated slot only, and only whether it is below 3. -/
theorem decode_congr_version {f : Fields} {v w : Nat} (h : f.Gated → (v < 3 ↔ w < 3)) (next : Option Fields) :
    decode v f next = decode w f next := by
  cases hr : decodeRow f with
  | error e => simp only [decode, hr]
  | ok i => simp only [decode_of_decodeRow hr, and_congr_right h]

theorem keepsR10_iff {i : Instr} : i.keepsR10 = true ↔ (encodeFirst i).written ≠ some 10 := by
  simp only [Instr.keepsR10, decide_eq_true_eq, ne_eq, writtenOperand_eq_r10_iff]

theorem availableAt_iff {version : Nat} {i : Instr} :
    i.availableAt version = true ↔ ((encodeFirst i).Gated → 3 ≤ version) := by
  simp only [Instr.availableAt, needsV3_eq, Bool.or_eq_true, Bool.not_eq_true', decide_eq_false_iff_not,
    decide_eq_true_eq, imp_iff_not_or]

/-! ### The second slot -/

/-- Only an `lddw` looks at the slot after it. -/
theorem decodeSecond_of_opcode_ne {f : Fields} {i : Instr} (h : decodeRow f = .ok i) (hop : f.opcode ≠ 0x18)
    (next : Option Fields) : decodeSecond i next = .ok i := by
  obtain rfl := encodeFirst_of_decodeRow h
  cases i
  case lddw => exact absurd rfl hop
  all_goals rfl

theorem decodeSecond_ofFirstSlot (i : Instr) (next : Option Fields) :
    decodeSecond i.ofFirstSlot ((encodeSecond i).or next) = .ok i := by
  cases i
  case lddw rd imm =>
    have hjoin : imm.extractLsb' 32 32 ++ imm.extractLsb' 0 32 = imm :=
      (append_extract imm 0 (n := 32) (m := 32)).trans (extract_all imm)
    simp only [Instr.ofFirstSlot, encodeSecond, Option.some_or, decodeSecond, extract_append_low, hjoin]
    rfl
  all_goals rfl

/-! ### Decoding an encoding -/

theorem decode_encodeFirst {version : Nat} {i : Instr} (hr : i.keepsR10 = true) (hv : i.availableAt version = true)
    (next : Option Fields) : decode version (encodeFirst i) ((encodeSecond i).or next) = .ok i :=
  decode_eq_ok_iff.2 ⟨i.ofFirstSlot, decodeRow_encodeFirst i, keepsR10_iff.1 hr, availableAt_iff.1 hv,
    decodeSecond_ofFirstSlot i next⟩

theorem decodeSlots_encodeSlots {version : Nat} {i : Instr} (hr : i.keepsR10 = true)
    (hv : i.availableAt version = true) (e : Endian) (rest : List Slot) :
    decodeSlots version e (encodeSlots e i ++ rest) = .ok i := by
  have hnext : (((encodeSecond i).toList.map (·.slot e) ++ rest).head?.map (·.fields e)) =
      (encodeSecond i).or (rest.head?.map (·.fields e)) := by
    cases encodeSecond i <;> simp
  simp only [encodeSlots, encode, List.map_cons, List.cons_append, decodeSlots, Fields.fields_slot, hnext]
  exact decode_encodeFirst hr hv _

/-! ### Which slots decode, as far as their register numbers go -/

/-- Some instruction is answered. -/
def Decodes (r : Except Illegal Instr) : Prop := ∃ i, r = .ok i

theorem not_decodes_error {e : Illegal} : ¬ Decodes (.error e) := by rintro ⟨_, ⟨⟩⟩

theorem decodes_fixed {c : Bool} {r : Except Illegal Instr} : Decodes (fixed c r) ↔ c = true ∧ Decodes r := by
  simp [Decodes, fixed_eq_ok_iff]

theorem Reg.exists_num_eq_iff {n : BitVec 4} : (∃ r : Reg, r.num = n) ↔ n.toNat ≤ 10 := by
  simp only [← Reg.ofNum_eq_some_iff, ← Option.isSome_iff_exists]
  revert n
  decide

theorem decodes_withDst {f : Fields} {mk : Reg → Instr} : Decodes (withDst f mk) ↔ f.dst.toNat ≤ 10 := by
  simp only [Decodes, withDst_eq_ok_iff, ← Reg.exists_num_eq_iff]
  exact ⟨fun ⟨_, d, hd, _⟩ => ⟨d, hd⟩, fun ⟨d, hd⟩ => ⟨_, d, hd, rfl⟩⟩

theorem decodes_withRegs {f : Fields} {mk : Reg → Reg → Instr} :
    Decodes (withRegs f mk) ↔ f.dst.toNat ≤ 10 ∧ f.src.toNat ≤ 10 := by
  simp only [Decodes, withRegs_eq_ok_iff, ← Reg.exists_num_eq_iff]
  exact ⟨fun ⟨_, d, s, hd, hs, _⟩ => ⟨⟨d, hd⟩, s, hs⟩, fun ⟨⟨d, hd⟩, s, hs⟩ => ⟨_, d, s, hd, hs, rfl⟩⟩

theorem decodes_fmtMov {f : Fields} {mk mk8 mk16 mk32 : Reg → Reg → Instr} :
    Decodes (fmtMov f mk mk8 mk16 mk32) ↔
      f.imm = 0 ∧ f.offset.toNat ∈ [0, 8, 16, 32] ∧ f.dst.toNat ≤ 10 ∧ f.src.toNat ≤ 10 := by
  rw [fmtMov, decodes_fixed]
  split <;> simp_all [decodes_withRegs, not_decodes_error]

theorem decodes_fmtEnd {f : Fields} {mk16 mk32 mk64 : Reg → Instr} :
    Decodes (fmtEnd f mk16 mk32 mk64) ↔
      (f.src = 0 ∧ f.offset = 0) ∧ f.imm.toNat ∈ [16, 32, 64] ∧ f.dst.toNat ≤ 10 := by
  rw [fmtEnd, decodes_fixed]
  split <;> simp_all [decodes_withDst, not_decodes_error]

/-- The selectors of the atomics (rule R104). -/
abbrev atomicSelectors : List Nat := [0x00, 0x01, 0x40, 0x41, 0x50, 0x51, 0xA0, 0xA1, 0xE1, 0xF1]

theorem decodes_fmtAtomic64 {f : Fields} :
    Decodes (fmtAtomic64 f) ↔ f.imm.toNat ∈ atomicSelectors ∧ f.dst.toNat ≤ 10 ∧ f.src.toNat ≤ 10 := by
  unfold fmtAtomic64
  split <;> simp_all [decodes_withRegs, not_decodes_error]

theorem decodes_fmtAtomic32 {f : Fields} :
    Decodes (fmtAtomic32 f) ↔ f.imm.toNat ∈ atomicSelectors ∧ f.dst.toNat ≤ 10 ∧ f.src.toNat ≤ 10 := by
  unfold fmtAtomic32
  split <;> simp_all [decodes_withRegs, not_decodes_error]

/-- A row that accepts r9 as dst accepts r10: the formats that ask for a zero dst accept neither. -/
theorem decodes_dst_ten {f : Fields} (h : Decodes (decodeRow { f with dst := 9 })) :
    Decodes (decodeRow { f with dst := 10 }) := by
  revert h
  unfold decodeRow
  dsimp only
  split
  all_goals
    simp [fmtAluR, decodes_fmtMov, fmtAluI, fmtAluU, decodes_fmtEnd, fmtLdabs, fmtLdind, fmtMem, fmtSt, fmtJccI,
      fmtJa16, fmtJa32, fmtCall, fmtExit, decodes_fmtAtomic64, decodes_fmtAtomic32, decodes_fixed, decodes_withDst,
      decodes_withRegs]

/-- An atomic row that accepts r9 as src accepts r10. -/
theorem decodes_src_ten_of_isAtomic {f : Fields} (ha : f.IsAtomic) (h : Decodes (decodeRow { f with src := 9 })) :
    Decodes (decodeRow { f with src := 10 }) := by
  obtain ⟨c, d, s, o, v⟩ := f
  obtain rfl | rfl := ha
  · obtain ⟨hv, hd, -⟩ := decodes_fmtAtomic32.1 h
    exact decodes_fmtAtomic32.2 ⟨hv, hd, Nat.le_refl 10⟩
  · obtain ⟨hv, hd, -⟩ := decodes_fmtAtomic64.1 h
    exact decodes_fmtAtomic64.2 ⟨hv, hd, Nat.le_refl 10⟩

/-! ### What is written -/

theorem written_of_writesDst {f : Fields} (h : f.WritesDst) : f.written = some f.dst := if_pos h

theorem written_of_not_writesDst {f : Fields} (h : ¬ f.WritesDst) :
    f.written = if f.IsAtomic ∧ f.Fetches then some f.src else none := if_neg h

theorem not_writesDst_of_isAtomic {f : Fields} (h : f.IsAtomic) : ¬ f.WritesDst := by
  obtain h | h := h <;> simp [Fields.WritesDst, h]

/-- The classes ST, STX, JMP and JMP32 only read dst, and `lddw` is of none of them. -/
theorem not_writesDst_of_class {f : Fields} (h : f.opcode.extractLsb' 0 3 = 2 ∨ f.opcode.extractLsb' 0 3 = 3 ∨
    f.opcode.extractLsb' 0 3 = 5 ∨ f.opcode.extractLsb' 0 3 = 6) : ¬ f.WritesDst := by
  rintro (hc | hc | hc | hc) <;> simp [hc] at h

/-! ### The statements -/

/-- Settles O5: whether a slot writes r10 is read off its fields, and r9 and r10 are accepted alike. -/
theorem writesToR10AreIllegal : Obligations.WritesToR10AreIllegal := by
  refine ⟨?_, ?_, ?_, ?_⟩
  · intro version f next i hdst hwrites h
    obtain ⟨_, -, hw, -⟩ := decode_eq_ok_iff.1 h
    exact hw (by rw [written_of_writesDst hwrites, hdst])
  · intro version f next i hsrc hatomic hfetch h
    obtain ⟨_, -, hw, -⟩ := decode_eq_ok_iff.1 h
    exact hw (by rw [written_of_not_writesDst (not_writesDst_of_isAtomic hatomic), if_pos ⟨hatomic, hfetch⟩, hsrc])
  · intro version f next i hv hclass h
    have hnot : ¬ f.WritesDst := not_writesDst_of_class hclass
    obtain ⟨k, hk, hw, -⟩ := decode_eq_ok_iff.1 h
    obtain ⟨j, hj⟩ := decodes_dst_ten ⟨k, hk⟩
    refine ⟨j, decode_eq_ok_iff.2 ⟨j, hj, ?_, fun _ => hv, ?_⟩⟩
    · rw [written_of_not_writesDst (f := { f with dst := 9 }) hnot] at hw
      rwa [written_of_not_writesDst (f := { f with dst := 10 }) hnot]
    · exact decodeSecond_of_opcode_ne hj (fun hop => hnot (.inr (.inr (.inr hop)))) next
  · intro version f next i hatomic himm h
    have hnot : ¬ f.WritesDst := not_writesDst_of_isAtomic hatomic
    obtain ⟨k, hk, -, hg, -⟩ := decode_eq_ok_iff.1 h
    obtain ⟨j, hj⟩ := decodes_src_ten_of_isAtomic hatomic ⟨k, hk⟩
    refine ⟨j, decode_eq_ok_iff.2 ⟨j, hj, ?_, hg, ?_⟩⟩
    · rw [written_of_not_writesDst (f := { f with src := 10 }) hnot, if_neg (by simp [Fields.Fetches, himm])]
      nofun
    · exact decodeSecond_of_opcode_ne hj (fun hop => hnot (.inr (.inr (.inr hop)))) next

/-- Settles O6: decoding an encoding for the first clause; for the others, decoding asks for the version of a gated slot
only. -/
theorem versionGating : Obligations.VersionGating := by
  refine ⟨?_, ?_, ?_, ?_⟩
  · intro version e i rest hv hr
    exact decodeSlots_encodeSlots hr (availableAt_iff.2 fun _ => hv) e rest
  · intro version f next hv
    exact decode_congr_version (fun _ => by omega) next
  · intro version f next hv hg i h
    obtain ⟨_, -, -, hge, -⟩ := decode_eq_ok_iff.1 h
    exact absurd (hge hg) (by omega)
  · intro version f next _ hg
    exact decode_congr_version (fun h => absurd h hg) next

/-- The concatenation of two words of 32 bits as the sum of rule R113. -/
theorem append_eq_ofNat (hi lo : BitVec 32) : hi ++ lo = BitVec.ofNat 64 (hi.toNat * 2 ^ 32 + lo.toNat) := by
  apply BitVec.eq_of_toNat_eq
  rw [BitVec.toNat_append, ← Nat.shiftLeft_add_eq_or_of_lt lo.isLt, Nat.shiftLeft_eq, BitVec.toNat_ofNat,
    Nat.mod_eq_of_lt (by omega)]

/-- Settles O30: the two slots are the encoding of `lddw` with the halves put together. -/
theorem loadImmediate64 : Obligations.LoadImmediate64 := by
  refine ⟨fun version rd lo hi hrd => ?_, fun s _ _ => commit_done s _ ()⟩
  have hkeeps : (Instr.lddw rd (hi ++ lo)).keepsR10 = true := by simpa [Instr.keepsR10, writtenOperand] using hrd
  have h := decode_encodeFirst (version := version) hkeeps rfl none
  rwa [encodeFirst, encodeSecond, extract_append_low, extract_append_high, append_eq_ofNat] at h

end Sys2Proof
end

section
/-! The family of local calls: a call goes through or faults as the depth of the call stack says (rules R315, R408). -/

namespace Sys2Proof.Machine

theorem exec_callLocal (d : BitVec 32) (s : State) : exec (.callLocal d) s = commit s (callLocal d s) := rfl

theorem callLocal_of_lt {s : State} (h : s.frames.length + 1 < s.params.maxCallDepth) (d : BitVec 32) :
    callLocal d s = .done () (s.enterCall d) :=
  if_neg (Nat.not_le_of_lt h)

theorem callLocal_of_le {s : State} (h : s.params.maxCallDepth ≤ s.frames.length + 1) (d : BitVec 32) :
    callLocal d s = .raised (.callDepthExceeded (s.frames.length + 1)) :=
  if_pos h

/-- Settles O46: below the depth limit the call leaves the state of rule R315, `State.enterCall`; at the limit it raises
the fault of rule R408, which `commit` takes in the state before. -/
theorem localCallCompletes : Obligations.LocalCallCompletes := by
  refine fun s d => ⟨fun hbelow => ?_, fun hlimit => ?_⟩
  · calc exec (.callLocal d) s
      _ = .next (s.enterCall d) := by rw [exec_callLocal, callLocal_of_lt hbelow, commit_done]
      _ = _ := rfl
  · calc exec (.callLocal d) s
      _ = .next (s.raise (.callDepthExceeded (s.frames.length + 1))) := by
        rw [exec_callLocal, callLocal_of_le hlimit, commit_raised]
      _ = faulted s _ := rfl

end Sys2Proof.Machine
end

section
/-! The family of exceptions: a helper call whose number HELPERS does not have (rule R407). -/

namespace Sys2Proof.Machine

theorem exec_callHelper (id : BitVec 32) (s : State) : exec (.callHelper id) s = commit s (callHelper id s) := rfl

theorem callHelper_of_lookup_none {id : BitVec 32} {s : State} (h : s.params.helpers.lookup id = none) :
    callHelper id s = .raised (.unknownHelper id) := by
  rw [callHelper, h]

/-- Settles O48: no entry has the number, so its lookup in HELPERS fails and the call raises the fault of rule R407,
which `commit` takes in the state before. -/
theorem unknownHelperFaults : Obligations.UnknownHelperFaults := by
  intro s id hunknown
  have hlookup : s.params.helpers.lookup id = none :=
    List.lookup_eq_none_iff.2 fun e he => bne_iff_ne.2 (hunknown e he).symm
  calc exec (.callHelper id) s
    _ = .next (s.raise (.unknownHelper id)) := by
      rw [exec_callHelper, callHelper_of_lookup_none hlookup, commit_raised]
    _ = faulted s _ := rfl

end Sys2Proof.Machine
end

section
/-! The cycle of the machine: what fetch finds at pc, and what a step of a running machine can come to (rules R116, R402,
R403). -/

namespace Sys2Proof.Machine

/-! ### Fetch -/

@[simp] theorem State.text_envStep (s : State) : s.envStep.text = s.text := by simp [State.text]

@[simp] theorem fetchInstr_envStep (s : State) : fetchInstr s.envStep = fetchInstr s := by
  unfold fetchInstr
  simp only [State.text_envStep, State.envStep_params, State.envStep_pc]

theorem State.text_eq_nil_iff (s : State) : s.text = [] ↔ s.pc < 0 ∨ (s.params.prog.length : Int) ≤ s.pc := by
  unfold State.text
  split
  next hneg => simp [hneg]
  next hneg =>
    rw [List.drop_eq_nil_iff]
    omega

theorem State.text_of_pc_eq {s : State} {k : Nat} (h : s.pc = k) : s.text = s.params.prog.drop k := by
  unfold State.text
  rw [h, if_neg (by omega), Int.toNat_natCast]

theorem fetchInstr_of_text_nil {s : State} (h : s.text = []) : fetchInstr s = .error (.pcOutOfRange s.pc) := by
  rw [fetchInstr, h]

theorem fetchInstr_of_decode_error {s : State} {sl : Slot} {rest : List Slot} {x : Illegal} (ht : s.text = sl :: rest)
    (hd : decodeSlots s.params.isaVersion s.params.endian (sl :: rest) = .error x) :
    fetchInstr s = .error (.illegalInstruction (sl.fields s.params.endian).word) := by
  simp only [fetchInstr, ht, hd]

theorem fetchInstr_eq_ok_iff {s : State} {i : Instr} :
    fetchInstr s = .ok i ↔ decodeSlots s.params.isaVersion s.params.endian s.text = .ok i := by
  cases ht : s.text with
  | nil => simp [fetchInstr_of_text_nil ht, decodeSlots]
  | cons sl rest =>
    cases hd : decodeSlots s.params.isaVersion s.params.endian (sl :: rest) with
    | error x => simp [fetchInstr_of_decode_error ht hd]
    | ok k => simp [fetchInstr, ht, hd]

/-- Everything that can keep fetch from finding an instruction (rules R402, R403). -/
theorem fetchInstr_error {s : State} {c : FaultCause} (h : fetchInstr s = .error c) :
    (s.text = [] ∧ c = .pcOutOfRange s.pc) ∨
    ∃ sl rest x, s.text = sl :: rest ∧ decodeSlots s.params.isaVersion s.params.endian (sl :: rest) = .error x ∧
      c = .illegalInstruction (sl.fields s.params.endian).word := by
  cases ht : s.text with
  | nil =>
    rw [fetchInstr_of_text_nil ht] at h
    exact .inl ⟨rfl, (Except.error.inj h).symm⟩
  | cons sl rest =>
    cases hd : decodeSlots s.params.isaVersion s.params.endian (sl :: rest) with
    | error x =>
      rw [fetchInstr_of_decode_error ht hd] at h
      exact .inr ⟨sl, rest, x, rfl, hd, (Except.error.inj h).symm⟩
    | ok k =>
      rw [fetchInstr_eq_ok_iff.2 (ht ▸ hd)] at h
      cases h

/-- A fetched instruction lies inside the program (rule R402). -/
theorem pc_lt_of_fetchInstr_ok {s : State} {i : Instr} (h : fetchInstr s = .ok i) :
    0 ≤ s.pc ∧ s.pc < s.params.prog.length := by
  have hne : s.text ≠ [] := fun ht => by rw [fetchInstr_of_text_nil ht] at h; cases h
  rw [ne_eq, s.text_eq_nil_iff] at hne
  omega

/-! ### The step -/

theorem step_of_fetch_error {s : State} {c : FaultCause} (hs : s.status = .running) (h : fetchInstr s = .error c) :
    step s = faulted s.envStep c := by
  simp only [step, hs, runStep, fetchInstr_envStep, h]
  rfl

theorem step_of_fetch_ok {s : State} {i : Instr} (hs : s.status = .running) (h : fetchInstr s = .ok i) :
    step s = exec i s.envStep := by
  simp only [step, hs, runStep, fetchInstr_envStep, h]

theorem step_of_exited {s : State} {v : Word} (hs : s.status = .exited v) : step s = .fault (.exited v) := by
  simp only [step, hs]

theorem step_of_faulted {s : State} {c : FaultCause} {p : Int} (hs : s.status = .faulted c p) :
    step s = .fault (.faulted c p) := by
  simp only [step, hs]

theorem running_of_step_next {s t : State} (h : step s = .next t) : s.status = .running := by
  cases hs : s.status with
  | running => rfl
  | exited v => rw [step_of_exited hs] at h; cases h
  | faulted c p => rw [step_of_faulted hs] at h; cases h

/-- Everything a step can come to: a fault of fetch or decode, or the instruction at pc, in the state `ENV` leaves. -/
theorem step_next {s t : State} (h : step s = .next t) :
    (∃ c, fetchInstr s = .error c ∧ t = s.envStep.raise c) ∨ ∃ i, fetchInstr s = .ok i ∧ exec i s.envStep = .next t := by
  have hs := running_of_step_next h
  cases hf : fetchInstr s with
  | error c =>
    rw [step_of_fetch_error hs hf] at h
    exact .inl ⟨c, rfl, (Host.Outcome.next.inj h).symm⟩
  | ok i => exact .inr ⟨i, rfl, step_of_fetch_ok hs hf ▸ h⟩

/-- What a step can come to, down to the effects and faults of the instruction at pc. -/
theorem step_cases {s t : State} (h : step s = .next t) :
    (∃ c, fetchInstr s = .error c ∧ t = s.envStep.raise c) ∨
    (∃ i, fetchInstr s = .ok i ∧ Effect i s.envStep t) ∨
    ∃ i c, fetchInstr s = .ok i ∧ Raises i s.envStep c ∧ t = s.envStep.raise c := by
  obtain hf | ⟨i, hi, hx⟩ := step_next h
  · exact .inl hf
  · obtain he | ⟨c, hc, ht⟩ := exec_next hx
    · exact .inr (.inl ⟨i, hi, he⟩)
    · exact .inr (.inr ⟨i, c, hi, hc, ht⟩)

end Sys2Proof.Machine
end

section
/-! The family of the encoding, the two directions between instructions and slots, and the slots that are no instruction
(rules R96, R108, R116, R120 to R124, R403). -/

namespace Sys2Proof
open Machine

/-! ### The fields of an encoding -/

theorem Instr.wellFormed_iff {version : Nat} {i : Instr} :
    i.wellFormed version = true ↔ i.keepsR10 = true ∧ i.availableAt version = true := by
  simp [Instr.wellFormed]

@[simp] theorem Reg.toNat_num_le (r : Reg) : r.num.toNat ≤ 10 := by cases r <;> decide

/-- A register field of an encoding is zero or the number of a register (rule R115). -/
theorem encodeFirst_dst_le (i : Instr) : (encodeFirst i).dst.toNat ≤ 10 := by cases i <;> simp [encodeFirst]

theorem encodeFirst_src_le (i : Instr) : (encodeFirst i).src.toNat ≤ 10 := by cases i <;> simp [encodeFirst]

theorem encodeFirst_lddw (rd : Reg) (imm : BitVec 64) :
    encodeFirst (.lddw rd imm) = ⟨0x18, rd.num, 0, 0, imm.extractLsb' 0 32⟩ := rfl

theorem encodeSecond_lddw (rd : Reg) (imm : BitVec 64) :
    encodeSecond (.lddw rd imm) = some ⟨0, 0, 0, 0, imm.extractLsb' 32 32⟩ := rfl

theorem exists_lddw_of_opcode {i : Instr} (h : (encodeFirst i).opcode = 0x18) : ∃ rd imm, i = .lddw rd imm := by
  cases i
  case lddw rd imm => exact ⟨rd, imm, rfl⟩
  all_goals cases h

/-- The word of every encoding matches the row of its instruction (rules R93, R108): the family `EncodesRow`. -/
theorem encodesRow : ∀ i : Instr, Laws.EncodesRow.Statement i
  | .addReg .. => Laws.EncodesRow.addReg ..
  | .addImm .. => Laws.EncodesRow.addImm ..
  | .subReg .. => Laws.EncodesRow.subReg ..
  | .subImm .. => Laws.EncodesRow.subImm ..
  | .mulReg .. => Laws.EncodesRow.mulReg ..
  | .mulImm .. => Laws.EncodesRow.mulImm ..
  | .divReg .. => Laws.EncodesRow.divReg ..
  | .divImm .. => Laws.EncodesRow.divImm ..
  | .modReg .. => Laws.EncodesRow.modReg ..
  | .modImm .. => Laws.EncodesRow.modImm ..
  | .andReg .. => Laws.EncodesRow.andReg ..
  | .andImm .. => Laws.EncodesRow.andImm ..
  | .orReg .. => Laws.EncodesRow.orReg ..
  | .orImm .. => Laws.EncodesRow.orImm ..
  | .xorReg .. => Laws.EncodesRow.xorReg ..
  | .xorImm .. => Laws.EncodesRow.xorImm ..
  | .lshReg .. => Laws.EncodesRow.lshReg ..
  | .lshImm .. => Laws.EncodesRow.lshImm ..
  | .rshReg .. => Laws.EncodesRow.rshReg ..
  | .rshImm .. => Laws.EncodesRow.rshImm ..
  | .arshReg .. => Laws.EncodesRow.arshReg ..
  | .arshImm .. => Laws.EncodesRow.arshImm ..
  | .neg .. => Laws.EncodesRow.neg ..
  | .movReg .. => Laws.EncodesRow.movReg ..
  | .movImm .. => Laws.EncodesRow.movImm ..
  | .movs8 .. => Laws.EncodesRow.movs8 ..
  | .movs16 .. => Laws.EncodesRow.movs16 ..
  | .movs32 .. => Laws.EncodesRow.movs32 ..
  | .add32Reg .. => Laws.EncodesRow.add32Reg ..
  | .add32Imm .. => Laws.EncodesRow.add32Imm ..
  | .sub32Reg .. => Laws.EncodesRow.sub32Reg ..
  | .sub32Imm .. => Laws.EncodesRow.sub32Imm ..
  | .mul32Reg .. => Laws.EncodesRow.mul32Reg ..
  | .mul32Imm .. => Laws.EncodesRow.mul32Imm ..
  | .div32Reg .. => Laws.EncodesRow.div32Reg ..
  | .div32Imm .. => Laws.EncodesRow.div32Imm ..
  | .mod32Reg .. => Laws.EncodesRow.mod32Reg ..
  | .mod32Imm .. => Laws.EncodesRow.mod32Imm ..
  | .and32Reg .. => Laws.EncodesRow.and32Reg ..
  | .and32Imm .. => Laws.EncodesRow.and32Imm ..
  | .or32Reg .. => Laws.EncodesRow.or32Reg ..
  | .or32Imm .. => Laws.EncodesRow.or32Imm ..
  | .xor32Reg .. => Laws.EncodesRow.xor32Reg ..
  | .xor32Imm .. => Laws.EncodesRow.xor32Imm ..
  | .lsh32Reg .. => Laws.EncodesRow.lsh32Reg ..
  | .lsh32Imm .. => Laws.EncodesRow.lsh32Imm ..
  | .rsh32Reg .. => Laws.EncodesRow.rsh32Reg ..
  | .rsh32Imm .. => Laws.EncodesRow.rsh32Imm ..
  | .arsh32Reg .. => Laws.EncodesRow.arsh32Reg ..
  | .arsh32Imm .. => Laws.EncodesRow.arsh32Imm ..
  | .neg32 .. => Laws.EncodesRow.neg32 ..
  | .mov32Reg .. => Laws.EncodesRow.mov32Reg ..
  | .mov32Imm .. => Laws.EncodesRow.mov32Imm ..
  | .mov32s8 .. => Laws.EncodesRow.mov32s8 ..
  | .mov32s16 .. => Laws.EncodesRow.mov32s16 ..
  | .mov32s32 .. => Laws.EncodesRow.mov32s32 ..
  | .endle16 .. => Laws.EncodesRow.endle16 ..
  | .endle32 .. => Laws.EncodesRow.endle32 ..
  | .endle64 .. => Laws.EncodesRow.endle64 ..
  | .endbe16 .. => Laws.EncodesRow.endbe16 ..
  | .endbe32 .. => Laws.EncodesRow.endbe32 ..
  | .endbe64 .. => Laws.EncodesRow.endbe64 ..
  | .bswap16 .. => Laws.EncodesRow.bswap16 ..
  | .bswap32 .. => Laws.EncodesRow.bswap32 ..
  | .bswap64 .. => Laws.EncodesRow.bswap64 ..
  | .lddw .. => Laws.EncodesRow.lddw ..
  | .ldabsw .. => Laws.EncodesRow.ldabsw ..
  | .ldabsh .. => Laws.EncodesRow.ldabsh ..
  | .ldabsb .. => Laws.EncodesRow.ldabsb ..
  | .ldindw .. => Laws.EncodesRow.ldindw ..
  | .ldindh .. => Laws.EncodesRow.ldindh ..
  | .ldindb .. => Laws.EncodesRow.ldindb ..
  | .ldxdw .. => Laws.EncodesRow.ldxdw ..
  | .ldxw .. => Laws.EncodesRow.ldxw ..
  | .ldxh .. => Laws.EncodesRow.ldxh ..
  | .ldxb .. => Laws.EncodesRow.ldxb ..
  | .ldxsdw .. => Laws.EncodesRow.ldxsdw ..
  | .ldxsw .. => Laws.EncodesRow.ldxsw ..
  | .ldxsh .. => Laws.EncodesRow.ldxsh ..
  | .ldxsb .. => Laws.EncodesRow.ldxsb ..
  | .stxdw .. => Laws.EncodesRow.stxdw ..
  | .stxw .. => Laws.EncodesRow.stxw ..
  | .stxh .. => Laws.EncodesRow.stxh ..
  | .stxb .. => Laws.EncodesRow.stxb ..
  | .stdw .. => Laws.EncodesRow.stdw ..
  | .stw .. => Laws.EncodesRow.stw ..
  | .sth .. => Laws.EncodesRow.sth ..
  | .stb .. => Laws.EncodesRow.stb ..
  | .ja .. => Laws.EncodesRow.ja ..
  | .jal .. => Laws.EncodesRow.jal ..
  | .jeqReg .. => Laws.EncodesRow.jeqReg ..
  | .jeqImm .. => Laws.EncodesRow.jeqImm ..
  | .jgtReg .. => Laws.EncodesRow.jgtReg ..
  | .jgtImm .. => Laws.EncodesRow.jgtImm ..
  | .jgeReg .. => Laws.EncodesRow.jgeReg ..
  | .jgeImm .. => Laws.EncodesRow.jgeImm ..
  | .jltReg .. => Laws.EncodesRow.jltReg ..
  | .jltImm .. => Laws.EncodesRow.jltImm ..
  | .jleReg .. => Laws.EncodesRow.jleReg ..
  | .jleImm .. => Laws.EncodesRow.jleImm ..
  | .jsetReg .. => Laws.EncodesRow.jsetReg ..
  | .jsetImm .. => Laws.EncodesRow.jsetImm ..
  | .jneReg .. => Laws.EncodesRow.jneReg ..
  | .jneImm .. => Laws.EncodesRow.jneImm ..
  | .jsgtReg .. => Laws.EncodesRow.jsgtReg ..
  | .jsgtImm .. => Laws.EncodesRow.jsgtImm ..
  | .jsgeReg .. => Laws.EncodesRow.jsgeReg ..
  | .jsgeImm .. => Laws.EncodesRow.jsgeImm ..
  | .jsltReg .. => Laws.EncodesRow.jsltReg ..
  | .jsltImm .. => Laws.EncodesRow.jsltImm ..
  | .jsleReg .. => Laws.EncodesRow.jsleReg ..
  | .jsleImm .. => Laws.EncodesRow.jsleImm ..
  | .callLocal .. => Laws.EncodesRow.callLocal ..
  | .callHelper .. => Laws.EncodesRow.callHelper ..
  | .exit => Laws.EncodesRow.exit
  | .jeq32Reg .. => Laws.EncodesRow.jeq32Reg ..
  | .jeq32Imm .. => Laws.EncodesRow.jeq32Imm ..
  | .jgt32Reg .. => Laws.EncodesRow.jgt32Reg ..
  | .jgt32Imm .. => Laws.EncodesRow.jgt32Imm ..
  | .jge32Reg .. => Laws.EncodesRow.jge32Reg ..
  | .jge32Imm .. => Laws.EncodesRow.jge32Imm ..
  | .jlt32Reg .. => Laws.EncodesRow.jlt32Reg ..
  | .jlt32Imm .. => Laws.EncodesRow.jlt32Imm ..
  | .jle32Reg .. => Laws.EncodesRow.jle32Reg ..
  | .jle32Imm .. => Laws.EncodesRow.jle32Imm ..
  | .jset32Reg .. => Laws.EncodesRow.jset32Reg ..
  | .jset32Imm .. => Laws.EncodesRow.jset32Imm ..
  | .jne32Reg .. => Laws.EncodesRow.jne32Reg ..
  | .jne32Imm .. => Laws.EncodesRow.jne32Imm ..
  | .jsgt32Reg .. => Laws.EncodesRow.jsgt32Reg ..
  | .jsgt32Imm .. => Laws.EncodesRow.jsgt32Imm ..
  | .jsge32Reg .. => Laws.EncodesRow.jsge32Reg ..
  | .jsge32Imm .. => Laws.EncodesRow.jsge32Imm ..
  | .jslt32Reg .. => Laws.EncodesRow.jslt32Reg ..
  | .jslt32Imm .. => Laws.EncodesRow.jslt32Imm ..
  | .jsle32Reg .. => Laws.EncodesRow.jsle32Reg ..
  | .jsle32Imm .. => Laws.EncodesRow.jsle32Imm ..
  | .acmp .. => Laws.EncodesRow.acmp ..
  | .axchg .. => Laws.EncodesRow.axchg ..
  | .aadd .. => Laws.EncodesRow.aadd ..
  | .aor .. => Laws.EncodesRow.aor ..
  | .aand .. => Laws.EncodesRow.aand ..
  | .axor .. => Laws.EncodesRow.axor ..
  | .afadd .. => Laws.EncodesRow.afadd ..
  | .afor .. => Laws.EncodesRow.afor ..
  | .afand .. => Laws.EncodesRow.afand ..
  | .afxor .. => Laws.EncodesRow.afxor ..
  | .acmp32 .. => Laws.EncodesRow.acmp32 ..
  | .axchg32 .. => Laws.EncodesRow.axchg32 ..
  | .aadd32 .. => Laws.EncodesRow.aadd32 ..
  | .aor32 .. => Laws.EncodesRow.aor32 ..
  | .aand32 .. => Laws.EncodesRow.aand32 ..
  | .axor32 .. => Laws.EncodesRow.axor32 ..
  | .afadd32 .. => Laws.EncodesRow.afadd32 ..
  | .afor32 .. => Laws.EncodesRow.afor32 ..
  | .afand32 .. => Laws.EncodesRow.afand32 ..
  | .afxor32 .. => Laws.EncodesRow.afxor32 ..

/-! ### From slots to an encoding -/

/-- What step (7) of rule R116 answers has the first slot it began with, and its second slot is the one that followed. -/
theorem decodeSecond_eq_ok {k i : Instr} {next : Option Fields} (h : decodeSecond k next = .ok i) :
    encodeFirst i = encodeFirst k ∧ ∀ g ∈ encodeSecond i, next = some g := by
  cases k
  case lddw rd imm =>
    cases next with
    | none => cases h
    | some g =>
      obtain ⟨c, d, s, o, v⟩ := g
      simp only [decodeSecond] at h
      split at h
      next hz =>
        obtain ⟨⟨⟨rfl, rfl⟩, rfl⟩, rfl⟩ : ((c = 0 ∧ d = 0) ∧ s = 0) ∧ o = 0 := by simpa using hz
        obtain rfl := Except.ok.inj h
        refine ⟨?_, fun g hg => ?_⟩
        · rw [encodeFirst_lddw, encodeFirst_lddw, extract_append_low]
        · rw [encodeSecond_lddw, extract_append_high] at hg
          exact hg
      next => cases h
  all_goals
    obtain rfl := Except.ok.inj h
    exact ⟨rfl, nofun⟩

theorem decode_eq_ok {version : Nat} {f : Fields} {next : Option Fields} {i : Instr}
    (h : decode version f next = .ok i) :
    i.wellFormed version = true ∧ encodeFirst i = f ∧ ∀ g ∈ encodeSecond i, next = some g := by
  obtain ⟨k, hk, hw, hg, h2⟩ := decode_eq_ok_iff.1 h
  obtain ⟨hfirst, hsecond⟩ := decodeSecond_eq_ok h2
  obtain rfl : encodeFirst i = f := hfirst.trans (encodeFirst_of_decodeRow hk)
  exact ⟨Instr.wellFormed_iff.2 ⟨keepsR10_iff.2 hw, availableAt_iff.2 hg⟩, rfl, hsecond⟩

/-- Everything that slots which decode say of the instruction (rules R91 to R96, R116). -/
theorem decodeSlots_eq_ok {version : Nat} {e : Endian} {i : Instr} {slots : List Slot}
    (h : decodeSlots version e slots = .ok i) :
    ∃ sl rest, slots = sl :: rest ∧ i.wellFormed version = true ∧ encodeFirst i = sl.fields e ∧
      ∀ g ∈ encodeSecond i, ∃ nx rest', rest = nx :: rest' ∧ nx.fields e = g := by
  cases slots with
  | nil => cases h
  | cons sl rest =>
    obtain ⟨hwf, hfirst, hsecond⟩ := decode_eq_ok h
    refine ⟨sl, rest, rfl, hwf, hfirst, fun g hg => ?_⟩
    cases rest with
    | nil => cases hsecond g hg
    | cons nx rest' => exact ⟨nx, rest', rfl, Option.some.inj (hsecond g hg)⟩

/-- The slots an instruction was read from are its encoding. -/
theorem encodeSlots_eq_take {version : Nat} {e : Endian} {i : Instr} {slots : List Slot}
    (h : decodeSlots version e slots = .ok i) : encodeSlots e i = slots.take (encodeSlots e i).length := by
  obtain ⟨sl, rest, rfl, -, hfirst, hsecond⟩ := decodeSlots_eq_ok h
  simp only [encodeSlots, encode, hfirst, List.map_cons, Slot.slot_fields, List.length_cons, List.take_succ_cons]
  cases he : encodeSecond i with
  | none => rfl
  | some g =>
    obtain ⟨nx, rest', rfl, rfl⟩ := hsecond g he
    simp

/-! ### Slots that are no instruction -/

theorem decodeSlots_cons_ne_ok {version : Nat} {e : Endian} {sl : Slot} {rest : List Slot}
    (h : ∀ i, i.wellFormed version = true → encodeFirst i = sl.fields e →
      (∀ g ∈ encodeSecond i, ∃ nx rest', rest = nx :: rest' ∧ nx.fields e = g) → False) :
    ∃ x, decodeSlots version e (sl :: rest) = .error x := by
  cases hd : decodeSlots version e (sl :: rest) with
  | error x => exact ⟨x, rfl⟩
  | ok i =>
    obtain ⟨_, _, ⟨⟩, hwf, hfirst, hsecond⟩ := decodeSlots_eq_ok hd
    exact (h i hwf hfirst hsecond).elim

/-- No row of the table has the opcode 0x00 (rules R96, R120). -/
theorem encodeFirst_opcode_ne_zero (i : Instr) : (encodeFirst i).opcode ≠ 0 := by cases i <;> exact nofun

/-! ### The statements -/

/-- Settles O1: decoding an encoding, for both halves of well-formedness. -/
theorem decodeOfEncode : Obligations.DecodeOfEncode := by
  intro version e i rest hwf
  obtain ⟨hr, hv⟩ := Instr.wellFormed_iff.1 hwf
  exact decodeSlots_encodeSlots hr hv e rest

/-- Settles O2: what a row answers is encoded by the fields it was read from, and every encoding matches its row. -/
theorem encodeOfDecode : Obligations.EncodeOfDecode := by
  intro version e i slots h
  refine ⟨?_, encodeSlots_eq_take h, ?_⟩
  · obtain ⟨-, -, -, hwf, -⟩ := decodeSlots_eq_ok h
    exact hwf
  · obtain ⟨sl, rest, rfl, -, hfirst, -⟩ := decodeSlots_eq_ok h
    rintro _ ⟨⟩
    rw [← hfirst]
    exact encodesRow i

/-- Settles O3. -/
theorem decodeSanity : Obligations.DecodeSanity := by
  refine ⟨?_, ?_, ?_, ?_, ?_, ?_, ?_, ?_⟩ <;> rfl

/-- Settles O4: each clause names a property that no encoding has, so the slots do not decode. -/
theorem noRowIsIllegal : Obligations.NoRowIsIllegal := by
  rintro s sl rest f hs ht rfl
  have hstep {x : Illegal} (hd : decodeSlots s.params.isaVersion s.params.endian (sl :: rest) = .error x) :
      step s = faulted s.envStep (.illegalInstruction (sl.fields s.params.endian).word) :=
    step_of_fetch_error hs (fetchInstr_of_decode_error ht hd)
  have hillegal (h : ∀ i, i.wellFormed s.params.isaVersion = true → encodeFirst i = sl.fields s.params.endian →
      (∀ g ∈ encodeSecond i, ∃ nx rest', rest = nx :: rest' ∧ nx.fields s.params.endian = g) → False) :
      step s = faulted s.envStep (.illegalInstruction (sl.fields s.params.endian).word) := by
    obtain ⟨x, hd⟩ := decodeSlots_cons_ne_ok h
    exact hstep hd
  refine ⟨fun x hd => hstep hd, fun hrow => hillegal ?_, fun hreg => hillegal ?_, fun hdst hwrites => hillegal ?_,
    fun hsrc hatomic hfetch => hillegal ?_, fun hv hgated => hillegal ?_, fun hop hnext => hillegal ?_⟩
  · intro i _ hfirst _
    exact hrow i (hfirst ▸ encodesRow i)
  · intro i _ hfirst _
    have hd := encodeFirst_dst_le i
    have hr := encodeFirst_src_le i
    rw [hfirst] at hd hr
    omega
  · intro i hwf hfirst _
    refine keepsR10_iff.1 (Instr.wellFormed_iff.1 hwf).1 ?_
    rw [hfirst, written_of_writesDst hwrites, hdst]
  · intro i hwf hfirst _
    refine keepsR10_iff.1 (Instr.wellFormed_iff.1 hwf).1 ?_
    rw [hfirst, written_of_not_writesDst (not_writesDst_of_isAtomic hatomic), if_pos ⟨hatomic, hfetch⟩, hsrc]
  · intro i hwf hfirst _
    have hge := availableAt_iff.1 (Instr.wellFormed_iff.1 hwf).2 (hfirst ▸ hgated)
    omega
  · intro i _ hfirst hsecond
    obtain ⟨rd, imm, rfl⟩ := exists_lddw_of_opcode (hfirst ▸ hop)
    obtain ⟨nx, rest', rfl, hnx⟩ := hsecond _ (encodeSecond_lddw rd imm)
    simpa [hnx] using hnext nx rfl

/-- Settles O7: the second slot of an encoding has the opcode 0x00, which no first slot has. -/
theorem lddwSecondSlot : Obligations.LddwSecondSlot := by
  intro s k rd imm hs hd hpc
  obtain ⟨sl, rest, hk, -, -, hsecond⟩ := decodeSlots_eq_ok hd
  obtain ⟨nx, rest', rfl, hnx⟩ := hsecond _ (encodeSecond_lddw rd imm)
  have hdrop : s.params.prog.drop (k + 1) = nx :: rest' := by rw [← List.drop_drop, hk]; rfl
  have ht : s.text = nx :: rest' := (State.text_of_pc_eq (by exact_mod_cast hpc)).trans hdrop
  have hop : (nx.fields s.params.endian).opcode = 0 := by rw [hnx]
  refine ⟨nx, ?_, hop, ?_⟩
  · rw [← List.head?_drop, hdrop]; rfl
  · obtain ⟨x, hx⟩ := decodeSlots_cons_ne_ok (version := s.params.isaVersion) (rest := rest')
      fun i _ hfirst _ => encodeFirst_opcode_ne_zero i (hfirst ▸ hop)
    exact step_of_fetch_error hs (fetchInstr_of_decode_error ht hx)

/-- Settles O8: fetch finds the slots from k on, and the step runs what they decode to after `ENV` has acted. -/
theorem stepRunsDecoded : Obligations.StepRunsDecoded := by
  intro s k i hs hpc hd
  have hf : fetchInstr s = .ok i := fetchInstr_eq_ok_iff.2 (State.text_of_pc_eq hpc ▸ hd)
  obtain ⟨_, _, _, hwf, -⟩ := decodeSlots_eq_ok hd
  have hstep : step s = exec i s.envStep := step_of_fetch_ok hs hf
  refine ⟨hwf, ?_, hstep, fun henv => ?_⟩
  · have := pc_lt_of_fetchInstr_ok hf
    omega
  · rw [hstep, State.envStep_quiet henv]

end Sys2Proof
end

section
/-! The frame of an instruction: what each `Effect` leaves of every field of the state, and so what an instruction and a
step leave of it (rules R24, R25, R27, R32, R34, R411, R416). -/

namespace Sys2Proof.Machine

variable {i : Instr} {s t : State}

@[simp] theorem State.setRegs_regs (s : State) (g : RegFile) : (s.setRegs g).regs = g := rfl
@[simp] theorem State.setRegs_pc (s : State) (g : RegFile) : (s.setRegs g).pc = s.pc := rfl
@[simp] theorem State.setRegs_frames (s : State) (g : RegFile) : (s.setRegs g).frames = s.frames := rfl
@[simp] theorem State.setRegs_mem (s : State) (g : RegFile) : (s.setRegs g).mem = s.mem := rfl
@[simp] theorem State.setRegs_status (s : State) (g : RegFile) : (s.setRegs g).status = s.status := rfl
@[simp] theorem State.setRegs_params (s : State) (g : RegFile) : (s.setRegs g).params = s.params := rfl
@[simp] theorem State.setRegs_envDraws (s : State) (g : RegFile) : (s.setRegs g).envDraws = s.envDraws := rfl
@[simp] theorem State.setRegs_helperDraws (s : State) (g : RegFile) : (s.setRegs g).helperDraws = s.helperDraws := rfl

/-! ### Parameters and draws -/

theorem Effect.params_eq (h : Effect i s t) : t.params = s.params := by cases h <;> simp

theorem Effect.envDraws_eq (h : Effect i s t) : t.envDraws = s.envDraws := by cases h <;> simp

theorem Effect.draws_le (h : Effect i s t) : s.draws ≤ t.draws := by
  cases h
  case helper =>
    rw [State.afterHelper_draws, drawHelper_draws]
    split <;> omega
  case call => exact Nat.le_refl _
  all_goals assumption

theorem Effect.helperDraws_eq (h : Effect i s t) (hi : ∀ id, i ≠ .callHelper id) : t.helperDraws = s.helperDraws := by
  cases h
  case helper id _ hid _ => exact absurd hid (hi id)
  all_goals simp

/-! ### Status -/

/-- The run may end with the result v: `exit` at depth 1, or a packet load outside the packet (rules R34, R245, R317). -/
def MayEnd (i : Instr) (s : State) (v : Word) : Prop :=
  (i = .exit ∧ s.frames = [] ∧ s.mayRead .r0 v) ∨
  (v = 0 ∧ s.mayRead .r6 s.params.ctx ∧ ∃ n k, packetBytes i = some n ∧ packetIndex s k i ∧
    (k < 0 ∨ (s.params.packet.length : Int) < k + n))

/-- An instruction that raises no fault keeps the status, or ends the run and changes nothing else. -/
theorem Effect.status_cases (h : Effect i s t) :
    t.status = s.status ∨ ∃ v, MayEnd i s v ∧ t = { s with status := .exited v, draws := t.draws } := by
  cases h
  case packetEnd n k j hp _ hc hx ho => exact .inr ⟨0, .inr ⟨rfl, hc, n, j, hp, hx, ho⟩, rfl⟩
  case exitEnd v k hi hf _ hv => exact .inr ⟨v, .inl ⟨hi, hf, hv⟩, rfl⟩
  all_goals exact .inl (by simp)

theorem Effect.not_faulted (h : Effect i s t) (hs : s.status = .running) (c : FaultCause) (p : Int) :
    t.status ≠ .faulted c p := by
  obtain hst | ⟨v, -, ht⟩ := h.status_cases
  · rw [hst, hs]; nofun
  · rw [ht]; nofun

/-- An instruction that runs into a fault raises it in the state it began in. -/
theorem exec_faulted (hs : s.status = .running) (h : exec i s = .next t) {c : FaultCause} {p : Int}
    (ht : t.status = .faulted c p) : Raises i s c ∧ p = s.pc ∧ t = s.raise c := by
  obtain he | ⟨x, hx, rfl⟩ := exec_next h
  · exact absurd ht (he.not_faulted hs c p)
  · rw [State.raise_status] at ht
    obtain ⟨rfl, rfl⟩ := Status.faulted.inj ht
    exact ⟨hx, rfl, rfl⟩

/-- An instruction whose next state has no fault does one of the listed effects. -/
theorem exec_effect (h : exec i s = .next t) (ht : ∀ c p, t.status ≠ .faulted c p) : Effect i s t := by
  obtain he | ⟨c, -, rfl⟩ := exec_next h
  · exact he
  · exact absurd (State.raise_status s c) (ht c s.pc)

/-! ### Registers -/

/-- The registers after a return: r0 as it was, r1 to r5 without value, r6 to r10 those of the record (rule R317). -/
theorem RegFile.restore_eq (g : RegFile) (f : Frame) :
    g.restore f = ⟨g.r0, none, none, none, none, none, f.s6, f.s7, f.s8, f.s9, f.s10⟩ := rfl

theorem implicitWrites_of_packetBytes {n : Nat} (h : packetBytes i = some n) :
    implicitWrites i = [.r0, .r1, .r2, .r3, .r4, .r5] := by
  cases i
  case ldabsw | ldabsh | ldabsb | ldindw | ldindh | ldindb => rfl
  all_goals cases h

/-- A result in r0 with r1 to r5 emptied leaves every other register (rules R245, R316). -/
theorem RegFile.get_set_dropArgs (f : RegFile) (v : Word) {r : Reg} (h : r ∉ [Reg.r0, .r1, .r2, .r3, .r4, .r5]) :
    ((f.set .r0 v).dropArgs).get r = f.get r := by
  simp only [List.mem_cons, not_or] at h
  rw [RegFile.get_dropArgs, RegFile.get_set_other _ _ h.1, if_neg (by simpa using h.2)]

theorem Effect.get_regs (h : Effect i s t) {r : Reg} (hr : r ∉ mayChange i) : t.regs.get r = s.regs.get r := by
  have hwritten (rd : Reg) (v : Word) (hw : rd ∈ mayChange i) : (s.regs.set rd v).get r = s.regs.get r :=
    RegFile.get_set_other _ _ fun he => hr (he ▸ hw)
  have hoperand (rd : Reg) (hw : writtenOperand i = some rd) : rd ∈ mayChange i := by simp [mayChange, hw]
  have himplicit : r ∉ implicitWrites i := fun hm => hr (List.mem_append_right _ hm)
  cases h
  case writes rd v _ _ hw _ _ _ _ _ => exact hwritten rd v (hoperand rd hw)
  case loads rd _ _ _ v _ hw _ _ _ _ _ _ => exact hwritten rd v (hoperand rd hw)
  case stores dest _ v _ _ _ _ hdest _ _ _ =>
    cases dest with
    | none => rfl
    | some d => exact hwritten d v (hdest d rfl)
  case packetLoad hp _ =>
    rw [implicitWrites_of_packetBytes hp] at himplicit
    exact RegFile.get_set_dropArgs _ _ himplicit
  case helper hi _ =>
    subst hi
    simp only [State.afterHelper_regs, drawHelper_regs]
    exact RegFile.get_set_dropArgs _ _ himplicit
  case call hi _ =>
    subst hi
    cases r <;> simp [implicitWrites] at himplicit <;> rfl
  case exitReturn hi _ _ =>
    subst hi
    cases r <;> simp [implicitWrites] at himplicit
    rfl
  all_goals rfl

/-! ### The call stack and r10 -/

/-- An instruction keeps the call stack and r10, or it is a call or a return (rules R24, R32, R315, R317). -/
theorem Effect.stack_cases (h : Effect i s t) :
    (t.frames = s.frames ∧ t.regs.r10 = s.regs.r10) ∨
    (∃ d, i = .callLocal d ∧ s.frames.length + 1 < s.params.maxCallDepth ∧ t = s.enterCall d) ∨
    ∃ f k, i = .exit ∧ s.frames.getLast? = some f ∧ t = (s.withDraws k).returnTo f := by
  cases h
  case call d hi hc => exact .inr (.inl ⟨d, hi, hc, rfl⟩)
  case exitReturn f k hi hf _ => exact .inr (.inr ⟨f, k, hi, hf, rfl⟩)
  case stores dest _ _ _ _ _ _ _ _ _ _ =>
    refine .inl ⟨rfl, ?_⟩
    cases dest <;> simp
  all_goals exact .inl (by simp)

/-! ### Memory -/

theorem State.byteAt_congr (hm : t.mem = s.mem) (hp : t.params = s.params) : t.byteAt = s.byteAt := by
  funext a
  rw [State.byteAt, State.byteAt, hm, hp]

/-- An instruction other than a helper call leaves memory, or stores the bytes of its own access (rules R62, R269 to R276,
R360). -/
theorem Effect.mem_cases (h : Effect i s t) (hi : ∀ id, i ≠ .callHelper id) :
    t.mem = s.mem ∨ ∃ base off n kind, ∃ w : BitVec (8 * n), dataAccess i = some (base, off, n, kind) ∧ kind ≠ .read ∧
      checkAccess s.params (effectiveAddress (s.firstRead base) off) n kind = none ∧
      t.mem = (s.storeAt (effectiveAddress (s.firstRead base) off).toNat n w).mem := by
  cases h
  case helper id _ hid _ => exact absurd hid (hi id)
  case stores base off n kind _ w _ _ ha _ hkind _ _ _ hc => exact .inr ⟨base, off, n, kind, w, ha, hkind, hc, rfl⟩
  all_goals exact .inl (by simp)

theorem accessRange_eq {base : Reg} {off : BitVec 16} {n : Nat} {kind : AccessKind}
    (h : dataAccess i = some (base, off, n, kind)) :
    accessRange i s = some ((effectiveAddress (s.firstRead base) off).toNat, n, kind) := by
  simp only [accessRange, h, Option.map_some, State.firstRead]

theorem accessRange_eq_none_iff : accessRange i s = none ↔ dataAccess i = none := by simp [accessRange]

/-- A byte outside the bytes that an instruction stores reads as before. -/
theorem Effect.byteAt_eq (h : Effect i s t) (hi : ∀ id, i ≠ .callHelper id) {b : Nat}
    (hb : ∀ a n k, accessRange i s = some (a, n, k) → k = .read ∨ b < a ∨ a + n ≤ b) : t.byteAt b = s.byteAt b := by
  obtain hm | ⟨base, off, n, kind, w, ha, hkind, -, hm⟩ := h.mem_cases hi
  · rw [State.byteAt_congr hm h.params_eq]
  · obtain hr | hr := hb _ n kind (accessRange_eq ha)
    · exact absurd hr hkind
    · rw [State.byteAt_congr (s := s.storeAt _ n w) hm h.params_eq, State.byteAt_storeAt_other _ _ hr]

theorem State.byteAt_raise (s : State) (c : FaultCause) : (s.raise c).byteAt = s.byteAt := rfl

/-! ### The program counter -/

theorem Effect.pc_cases (h : Effect i s t) (ht : t.status = .running) (hl : ∀ d w, i ≠ .lddw d w)
    (hc : ∀ d, i ≠ .callLocal d) (hx : i ≠ .exit) :
    t.pc = s.pc + 1 ∨ ∃ d, jumpDisp i = some d ∧ t.pc = s.pc + 1 + d := by
  cases h
  case writes hj =>
    obtain ⟨rfl, -⟩ | ⟨-, d, w, hi⟩ := hj
    · exact .inl rfl
    · exact absurd hi (hl d w)
  case jumps p d k hd _ hp => exact hp.imp_right fun hp => ⟨d, hd, hp⟩
  case packetEnd => cases ht
  case call d hi _ => exact absurd hi (hc d)
  case exitEnd hi _ _ _ => exact absurd hi hx
  case exitReturn hi _ _ => exact absurd hi hx
  all_goals exact .inl (by simp)

/-- The displacement of a conditional jump is the offset field of its encoding, in the classes JMP and JMP32. -/
theorem jumpDisp_eq_offset {d : Int} (h : jumpDisp i = some d) (ha : ∀ x, i ≠ .ja x) (hl : ∀ x, i ≠ .jal x) :
    ((encodeFirst i).opcode.extractLsb' 0 3 = 5 ∨ (encodeFirst i).opcode.extractLsb' 0 3 = 6) ∧
      d = (encodeFirst i).offset.toInt := by
  cases i
  case ja x => exact absurd rfl (ha x)
  case jal x => exact absurd rfl (hl x)
  case jeqReg | jeqImm | jgtReg | jgtImm | jgeReg | jgeImm | jltReg | jltImm | jleReg | jleImm | jsetReg | jsetImm |
      jneReg | jneImm | jsgtReg | jsgtImm | jsgeReg | jsgeImm | jsltReg | jsltImm | jsleReg | jsleImm =>
    exact ⟨.inl (by simp [encodeFirst]), (Option.some.inj h).symm⟩
  case jeq32Reg | jeq32Imm | jgt32Reg | jgt32Imm | jge32Reg | jge32Imm | jlt32Reg | jlt32Imm | jle32Reg | jle32Imm |
      jset32Reg | jset32Imm | jne32Reg | jne32Imm | jsgt32Reg | jsgt32Imm | jsge32Reg | jsge32Imm | jslt32Reg |
      jslt32Imm | jsle32Reg | jsle32Imm =>
    exact ⟨.inr (by simp [encodeFirst]), (Option.some.inj h).symm⟩
  all_goals cases h

end Sys2Proof.Machine
end

section
/-! The family of what an instruction and a step leave: faults, the end of the run, registers, memory, the call stack, pc,
the parameters and the draws (rules R24, R25, R27, R32, R400 to R413). -/

namespace Sys2Proof.Machine

theorem exec_exit (s : State) : exec .exit s = commit s (exitOrReturn s) := rfl

theorem exec_params {i : Instr} {s t : State} (h : exec i s = .next t) : t.params = s.params := by
  obtain he | ⟨c, -, rfl⟩ := exec_next h
  · exact he.params_eq
  · rfl

theorem exec_envDraws {i : Instr} {s t : State} (h : exec i s = .next t) : t.envDraws = s.envDraws := by
  obtain he | ⟨c, -, rfl⟩ := exec_next h
  · exact he.envDraws_eq
  · rfl

theorem exec_draws_le {i : Instr} {s t : State} (h : exec i s = .next t) : s.draws ≤ t.draws := by
  obtain he | ⟨c, -, rfl⟩ := exec_next h
  · exact he.draws_le
  · exact Nat.le_refl _

/-- Only fetch raises `PcOutOfRange` (rule R402). -/
theorem Raises.ne_pcOutOfRange {i : Instr} {s : State} {c : FaultCause} (h : Raises i s c) (q : Int) :
    c ≠ .pcOutOfRange q := by
  cases h
  case access hc => obtain rfl | rfl := checkAccess_some hc <;> nofun
  all_goals nofun

theorem exec_ne_pcOutOfRange {i : Instr} {s t : State} (hs : s.status = .running) (h : exec i s = .next t) (q p : Int) :
    t.status ≠ .faulted (.pcOutOfRange q) p :=
  fun ht => (exec_faulted hs h ht).1.ne_pcOutOfRange q rfl

/-- A step that runs into a fault takes it in the state that `ENV` left, at fetch or in the instruction (rules R410,
R411). -/
theorem step_faulted {s t : State} (h : step s = .next t) {c : FaultCause} {p : Int} (ht : t.status = .faulted c p) :
    p = s.pc ∧ t = s.envStep.raise c ∧
      (fetchInstr s = .error c ∨ ∃ i, fetchInstr s = .ok i ∧ Raises i s.envStep c) := by
  obtain ⟨x, hf, rfl⟩ | ⟨i, hf, hx⟩ := step_next h
  · rw [State.raise_status] at ht
    obtain ⟨rfl, rfl⟩ := Status.faulted.inj ht
    exact ⟨State.envStep_pc s, rfl, .inl hf⟩
  · obtain ⟨hc, hp, ht⟩ := exec_faulted ((State.envStep_status s).trans (running_of_step_next h)) hx ht
    exact ⟨hp.trans (State.envStep_pc s), ht, .inr ⟨i, hf, hc⟩⟩

/-- Settles O9: fetch finds nothing exactly outside the program, and nothing else raises the fault. -/
theorem pcOutOfRangeFaults : Obligations.PcOutOfRangeFaults := by
  refine ⟨fun s hs hpc => ?_, fun s t q p hs hlo hhi h ht => ?_, fun i s t q p hs h => exec_ne_pcOutOfRange hs h q p⟩
  · exact step_of_fetch_error hs (fetchInstr_of_text_nil (s.text_eq_nil_iff.2 hpc))
  · obtain ⟨-, -, hf | ⟨i, -, hc⟩⟩ := step_faulted h ht
    · obtain ⟨htext, -⟩ | ⟨_, _, _, -, -, ⟨⟩⟩ := fetchInstr_error hf
      have := s.text_eq_nil_iff.1 htext
      omega
    · exact hc.ne_pcOutOfRange q rfl

/-- Settles O10: fetch answers a fault or an instruction, and every instruction has a next state. -/
theorem stepTotalAndFinal : Obligations.StepTotalAndFinal := by
  refine ⟨fun s hs => ?_, fun s v hs => step_of_exited hs, fun s c p hs => step_of_faulted hs⟩
  cases hf : fetchInstr s with
  | error c => exact ⟨_, step_of_fetch_error hs hf⟩
  | ok i => exact step_of_fetch_ok hs hf ▸ exec_total i s.envStep

/-- Settles O13: neither `ENV` nor a fault nor an instruction changes the parameters. -/
theorem programNeverChanges : Obligations.ProgramNeverChanges := by
  intro s t h
  obtain ⟨c, -, rfl⟩ | ⟨i, -, hx⟩ := step_next h
  · exact State.envStep_params s
  · exact (exec_params hx).trans (State.envStep_params s)

/-- Settles O14: a fault is `State.raise` of the state before the instruction. -/
theorem faultsArePrecise : Obligations.FaultsArePrecise := by
  refine ⟨fun i s t c p hs h ht => ?_, fun s t c p hs h ht => ?_, fun s c p hs => step_of_faulted hs⟩
  · obtain ⟨-, -, rfl⟩ := exec_faulted hs h ht
    rfl
  · obtain ⟨-, rfl, -⟩ := step_faulted h ht
    rw [← State.envStep_pc s]
    rfl

/-- Settles O16: of the effects of an instruction only the two of `MayEnd` end the run. -/
theorem onlyExitAndPacketEndTheRun : Obligations.OnlyExitAndPacketEndTheRun := by
  intro i s t v hs h ht
  have he : Effect i s t := exec_effect h fun c p => by rw [ht]; nofun
  obtain hst | ⟨w, hw, heq⟩ := he.status_cases
  · rw [ht, hs] at hst
    cases hst
  · have hwv : t.status = .exited w := by rw [heq]
    obtain rfl : w = v := Status.exited.inj (hwv.symm.trans ht)
    exact ⟨hw, heq⟩

/-- Settles O17. -/
theorem registersChanged : Obligations.RegistersChanged := by
  intro i s t r h hr
  obtain he | ⟨c, -, rfl⟩ := exec_next h
  · exact he.get_regs hr
  · rfl

/-- Settles O18. -/
theorem framePointerReadOnly : Obligations.FramePointerReadOnly := by
  intro i s t h hcall hexit
  obtain he | ⟨c, -, rfl⟩ := exec_next h
  · obtain ⟨-, hr⟩ | ⟨d, hi, -⟩ | ⟨f, k, hi, -⟩ := he.stack_cases
    · exact hr
    · exact absurd hi (hcall d)
    · exact absurd hi hexit
  · rfl

/-- Settles O19: memory is as before, or it is that after the store of the instruction's own access. -/
theorem memoryChanged : Obligations.MemoryChanged := by
  intro i s t h hi
  obtain he | ⟨c, -, rfl⟩ := exec_next h
  · refine ⟨fun a n k b ha hb => he.byteAt_eq hi fun a' n' k' ha' => ?_, fun ha => ?_⟩
    · cases ha.symm.trans ha'
      exact hb
    · obtain hm | ⟨_, _, _, _, _, hd, -⟩ := he.mem_cases hi
      · exact hm
      · rw [accessRange_eq_none_iff.1 ha] at hd
        cases hd
  · exact ⟨fun _ _ _ _ _ _ => rfl, fun _ => rfl⟩

/-- Settles O20. -/
theorem callStackChanged : Obligations.CallStackChanged := by
  intro i s t h
  obtain he | ⟨c, -, rfl⟩ := exec_next h
  · obtain ⟨hf, -⟩ | ⟨d, hi, -, rfl⟩ | ⟨f, k, hi, hf, rfl⟩ := he.stack_cases
    · exact .inl hf
    · exact .inr (.inl ⟨⟨d, hi⟩, rfl⟩)
    · exact .inr (.inr ⟨hi, f, (List.dropLast_append_getLast? f hf).symm⟩)
  · exact .inl rfl

/-- Settles O21: an instruction leaves the draws for `ENV`, and before it `ENV` takes one, unless it is the identity. -/
theorem specialStateUnchanged : Obligations.SpecialStateUnchanged := by
  refine ⟨fun i s t h => ⟨exec_params h, exec_draws_le h, fun hi => ?_, exec_envDraws h⟩, fun s t h => ?_⟩
  · obtain he | ⟨c, -, rfl⟩ := exec_next h
    · exact he.helperDraws_eq hi
    · rfl
  · have hstep : t.envDraws = s.envStep.envDraws ∧ s.envStep.draws ≤ t.draws := by
      obtain ⟨c, -, rfl⟩ | ⟨i, -, hx⟩ := step_next h
      · exact ⟨rfl, Nat.le_refl _⟩
      · exact ⟨exec_envDraws hx, exec_draws_le hx⟩
    obtain ⟨henv, hdraws⟩ := hstep
    rw [State.envStep_envDraws] at henv
    rw [State.envStep_draws] at hdraws
    refine ⟨fun hid => by rw [henv, if_pos hid], fun hid => ⟨by rw [henv, if_neg hid], fun hnil => ?_⟩⟩
    rw [if_pos ⟨hid, hnil⟩] at hdraws
    exact hdraws

/-- An instruction that always goes on to the next slot or is a conditional jump (rules R27, R290). -/
theorem exec_pc_of_conditional {i : Instr} {s t : State} (h : exec i s = .next t) (ht : t.status = .running)
    (hl : ∀ d w, i ≠ .lddw d w) (ha : ∀ x, i ≠ .ja x) (hj : ∀ x, i ≠ .jal x) (hc : ∀ d, i ≠ .callLocal d)
    (hx : i ≠ .exit) :
    t.pc = s.pc + 1 ∨ ((encodeFirst i).opcode.extractLsb' 0 3 = 5 ∨ (encodeFirst i).opcode.extractLsb' 0 3 = 6) ∧
      t.pc = s.pc + 1 + (encodeFirst i).offset.toInt := by
  have he : Effect i s t := exec_effect h fun c p => by rw [ht]; nofun
  refine (he.pc_cases ht hl hc hx).imp_right fun ⟨d, hd, hp⟩ => ?_
  obtain ⟨hclass, rfl⟩ := jumpDisp_eq_offset hd ha hj
  exact ⟨hclass, hp⟩

/-- Settles O45: `exec_pc_of_conditional` for every instruction but the five that always go elsewhere. -/
theorem pcUpdate : Obligations.PcUpdate := by
  refine ⟨?_, fun _ _ _ q p hs h => exec_ne_pcOutOfRange hs h q p⟩
  intro i s t hs h ht
  cases i
  case lddw => cases h; rfl
  case ja => cases h; rfl
  case jal => cases h; rfl
  case callLocal d =>
    rw [exec_callLocal] at h
    obtain hr | ⟨c, -, rfl⟩ := commit_cases h
    · obtain ⟨-, rfl⟩ := callLocal_done hr
      rfl
    · cases ht
  case exit =>
    rw [exec_exit] at h
    obtain hr | ⟨c, -, rfl⟩ := commit_cases h
    · obtain ⟨v, s1, -, ⟨-, rfl⟩ | ⟨f, hf, rfl⟩⟩ := exitOrReturn_done hr
      · cases ht
      · exact ⟨f, hf, rfl⟩
    · cases ht
  all_goals exact exec_pc_of_conditional h ht nofun nofun nofun nofun nofun

/-- Settles O58: with the identity as `ENV` the step is the instruction, which leaves the bytes it does not store. -/
theorem unwrittenBytesAreFixed : Obligations.UnwrittenBytesAreFixed := by
  intro s t i b henv hf hi h hb
  have hs := running_of_step_next h
  rw [step_of_fetch_ok hs hf, State.envStep_quiet henv] at h
  obtain he | ⟨c, -, rfl⟩ := exec_next h
  · exact he.byteAt_eq hi hb
  · rfl

/-- Settles O57. -/
theorem launchState : Obligations.LaunchState := by
  rintro p mem0 envDraws helperDraws s rfl
  refine ⟨rfl, rfl, rfl, rfl, rfl, rfl, rfl, fun a v h => ?_, fun a h => ?_⟩
  · exact congrArg (Option.getD · _) h
  · exact congrArg (Option.getD · _) h

end Sys2Proof.Machine
end

section
/-! The family of the faults and of the invariant: which fault an instruction can raise and when, and what every step keeps
(rules R51, R52, R315, R317, R401 to R408). -/

namespace Sys2Proof.Machine

/-! ### Faults of accesses -/

/-- What a misaligned-access fault says of the access (rules R59, R406). -/
theorem checkAccess_misaligned {p : Params} {a ea : Word} {m n : Nat} {k : AccessKind}
    (h : checkAccess p a m k = some (.misalignedAccess ea n)) :
    a = ea ∧ m = n ∧ ea.toNat % n ≠ 0 ∧ (k = .readwrite ∨ p.align = .strict) := by
  unfold checkAccess at h
  split at h
  · split at h <;> cases h
  · rename_i haligned
    split at h
    · split at h <;> cases h
    · rename_i hsplit
      cases h
      refine ⟨rfl, rfl, haligned, or_iff_not_imp_left.2 fun hk => ?_⟩
      cases hp : p.align with
      | strict => rfl
      | split => exact absurd ⟨hk, hp⟩ hsplit

/-- What a memory-access fault says of the access (rules R57 to R59, R405). -/
theorem checkAccess_memory {p : Params} {a ea : Word} {m n : Nat} {k j : AccessKind}
    (h : checkAccess p a m k = some (.memoryAccessFault ea n j)) :
    a = ea ∧ m = n ∧ k = j ∧ ¬ CanAccess p ea.toNat n j := by
  obtain hc | hc := checkAccess_some h
  · obtain ⟨rfl, rfl, rfl⟩ := FaultCause.memoryAccessFault.inj hc
    refine ⟨rfl, rfl, rfl, fun hcan => ?_⟩
    rw [checkAccess_eq_none_iff.2 hcan] at h
    cases h
  · cases hc

theorem helpers_of_lookup_none {id : BitVec 32} {l : List (BitVec 32 × HelperRel)} (h : l.lookup id = none) :
    ∀ e ∈ l, e.1 ≠ id :=
  fun e he => (bne_iff_ne.1 (List.lookup_eq_none_iff.1 h e he)).symm

/-- When the table of rule R401 lets a step from s raise the fault c. -/
def FaultOccasion (s : State) : FaultCause → Prop
  | .pcOutOfRange q => q = s.pc ∧ ¬(0 ≤ s.pc ∧ s.pc < s.params.prog.length)
  | .illegalInstruction w => ∃ sl rest x, s.text = sl :: rest ∧ w = (sl.fields s.params.endian).word ∧
      decodeSlots s.params.isaVersion s.params.endian (sl :: rest) = .error x
  | .callDepthExceeded d => d = s.frames.length + 1 ∧ s.params.maxCallDepth ≤ d ∧
      ∃ disp, fetchInstr s = .ok (.callLocal disp)
  | .unknownHelper id => (∀ e ∈ s.params.helpers, e.1 ≠ id) ∧ fetchInstr s = .ok (.callHelper id)
  | .uninitRegisterRead r => s.regs.get r = none ∧ s.params.uninit = .fault ∧
      ∃ i, fetchInstr s = .ok i ∧ r ∈ readOrder i
  | .misalignedAccess ea n => ea.toNat % n ≠ 0 ∧ ∃ i k, fetchInstr s = .ok i ∧
      accessRange i s.envStep = some (ea.toNat, n, k) ∧ (k = .readwrite ∨ s.params.align = .strict)
  | .memoryAccessFault ea n k => ∃ i, fetchInstr s = .ok i ∧
      ((accessRange i s.envStep = some (ea.toNat, n, k) ∧ ¬CanAccess s.params ea.toNat n k) ∨
       (packetBytes i = some n ∧ k = .read ∧ ea ≠ s.params.ctx ∧ s.mayRead .r6 ea))

theorem FaultOccasion.of_fetch {s : State} {c : FaultCause} (h : fetchInstr s = .error c) : FaultOccasion s c := by
  obtain ⟨ht, rfl⟩ | ⟨sl, rest, x, ht, hd, rfl⟩ := fetchInstr_error h
  · have := s.text_eq_nil_iff.1 ht
    exact ⟨rfl, by omega⟩
  · exact ⟨sl, rest, x, ht, rfl, hd⟩

theorem FaultOccasion.of_raises {s : State} {i : Instr} {c : FaultCause} (hf : fetchInstr s = .ok i)
    (h : Raises i s.envStep c) : FaultOccasion s c := by
  cases h
  case uninit r hr hn hu =>
    rw [State.envStep_regs] at hn
    rw [State.envStep_params] at hu
    exact ⟨hn, hu, i, hf, hr⟩
  case access base off n kind ha hc =>
    rw [State.envStep_params] at hc
    obtain rfl | rfl := checkAccess_some hc
    · obtain ⟨-, -, -, hcan⟩ := checkAccess_memory hc
      exact ⟨i, hf, .inl ⟨accessRange_eq ha, hcan⟩⟩
    · obtain ⟨-, -, hmod, hk⟩ := checkAccess_misaligned hc
      exact ⟨hmod, i, kind, hf, accessRange_eq ha, hk⟩
  case packet n hp hx h6 =>
    rw [State.envStep_params] at hx
    refine ⟨i, hf, .inr ⟨hp, rfl, hx, ?_⟩⟩
    rw [State.mayRead, State.envStep_regs, State.envStep_params] at h6
    exact h6
  case depth d hi hc =>
    rw [State.envStep_frames, State.envStep_params] at hc
    exact ⟨by rw [State.envStep_frames], by rwa [State.envStep_frames], d, hi ▸ hf⟩
  case helper id hi hm =>
    rw [State.envStep_params] at hm
    exact ⟨helpers_of_lookup_none hm, hi ▸ hf⟩

/-- Settles O15: a fault of a step is one of fetch or one that the instruction raises, and each has its occasion. -/
theorem faultCauses : Obligations.FaultCauses := by
  refine ⟨fun s t c p hs h ht => ?_, fun q w d id r n k => ⟨rfl, rfl, rfl, rfl, rfl, rfl, rfl⟩⟩
  obtain ⟨hp, -, hf⟩ := step_faulted h ht
  have hc : FaultOccasion s c := by
    obtain hf | ⟨i, hf, hr⟩ := hf
    · exact .of_fetch hf
    · exact .of_raises hf hr
  exact ⟨hp, by cases c <;> exact hc⟩

/-! ### The invariant -/

theorem framePointer_zero (p : Params) : framePointer p 0 = p.fp0 := by simp [framePointer]

theorem framePointer_succ (p : Params) (k : Nat) :
    framePointer p (k + 1) = framePointer p k - BitVec.ofNat 64 p.frameStride := by
  rw [framePointer, framePointer, Nat.succ_mul, BitVec.ofNat_add, sub_add_eq_sub_sub]

/-- Memory in its canonical form, with mapped addresses only (rules R35, R51). -/
def MemoryInv (p : Params) (m : Memory) : Prop := m.wf = true ∧ ∀ c ∈ m, isMapped p c.1 = true

/-- The call stack and r10, below the bound and with the frame pointers of their frames (rules R32, R52). -/
def StackInv (p : Params) (fs : List Frame) (r10 : Word) : Prop :=
  (fs = [] ∨ fs.length < p.maxCallDepth) ∧ r10 = framePointer p fs.length ∧
  fs.map Frame.s10 = (List.range fs.length).map (framePointer p) ∧ ∀ f ∈ fs, 1 ≤ f.ret ∧ f.ret ≤ p.prog.length

theorem inv_iff {s : State} : Inv s ↔ MemoryInv s.params s.mem ∧ StackInv s.params s.frames s.regs.r10 := by
  simp only [Inv, MemoryInv, StackInv, and_assoc]

theorem StackInv.nil (p : Params) : StackInv p [] p.fp0 :=
  ⟨.inl rfl, (framePointer_zero p).symm, rfl, nofun⟩

/-- A call below the depth limit, from a slot of the program (rule R315). -/
theorem StackInv.push {p : Params} {fs : List Frame} {r10 : Word} (h : StackInv p fs r10) {f : Frame}
    (hdepth : fs.length + 1 < p.maxCallDepth) (hs10 : f.s10 = r10) (hret : 1 ≤ f.ret ∧ f.ret ≤ p.prog.length) :
    StackInv p (fs ++ [f]) (r10 - BitVec.ofNat 64 p.frameStride) := by
  obtain ⟨-, hr10, hsaved, hrets⟩ := h
  refine ⟨.inr (by simpa using hdepth), ?_, ?_, fun g hg => ?_⟩
  · rw [List.length_append, List.length_singleton, framePointer_succ, ← hr10]
  · rw [List.length_append, List.length_singleton, List.range_succ, List.map_append, List.map_append, hsaved,
      List.map_singleton, List.map_singleton, hs10, hr10]
  · obtain hg | hg := List.mem_append.1 hg
    · exact hrets g hg
    · exact List.mem_singleton.1 hg ▸ hret

/-- A return restores the r10 of the frame below (rule R317). -/
theorem StackInv.pop {p : Params} {fs : List Frame} {f : Frame} {r10 : Word} (h : StackInv p (fs ++ [f]) r10) :
    StackInv p fs f.s10 := by
  obtain ⟨hdepth, -, hsaved, hrets⟩ := h
  rw [List.length_append, List.length_singleton] at hdepth
  rw [List.length_append, List.length_singleton, List.range_succ, List.map_append, List.map_append] at hsaved
  obtain ⟨hbelow, htop⟩ := List.append_inj' hsaved rfl
  refine ⟨.inr ?_, (List.cons.inj htop).1, hbelow, fun g hg => hrets g (List.mem_append_left _ hg)⟩
  have := hdepth.resolve_left (by simp)
  omega

theorem MemoryInv.storeAt {s : State} (h : MemoryInv s.params s.mem) {a n : Nat} (w : BitVec (8 * n))
    (hmapped : ∀ j < n, isMapped s.params (a + j) = true) : MemoryInv s.params (s.storeAt a n w).mem := by
  obtain ⟨hwf, hlisted⟩ := h
  refine ⟨Memory.wf_setBytes _ _ _ hwf, ?_⟩
  exact Memory.forall_setBytes (P := fun b => isMapped s.params b = true) _ _ _ hlisted
    fun j hj => hmapped j (by simpa using hj)

theorem MemoryInv.setCells {p : Params} {m : Memory} (h : MemoryInv p m) {cs : List Host.Cell}
    (hcs : ∀ c ∈ cs, isMapped p c.1 = true) : MemoryInv p (m.setCells cs) :=
  ⟨Memory.wf_setCells _ _ h.1, Memory.forall_setCells (P := fun b => isMapped p b = true) _ _ h.2 hcs⟩

theorem Effect.memoryInv {i : Instr} {s t : State} (he : Effect i s t) (h : MemoryInv s.params s.mem) :
    MemoryInv s.params t.mem := by
  by_cases hi : ∃ id, i = .callHelper id
  · obtain ⟨id, rfl⟩ := hi
    cases he
    case helper =>
      rw [State.afterHelper_mem, drawHelper_mem, drawHelper_params]
      exact h.setCells fun c hc => (List.mem_filter.1 hc).2
    case writes hw _ _ _ _ _ => cases hw
    case stores ha _ _ _ _ _ _ => cases ha
    all_goals exact h
  · obtain hm | ⟨base, off, n, kind, w, -, -, hc, hm⟩ := he.mem_cases fun id hid => hi ⟨id, hid⟩
    · exact hm ▸ h
    · exact hm ▸ h.storeAt w fun j hj => isMapped_of_canAccess (checkAccess_eq_none_iff.1 hc) hj

theorem Effect.stackInv {i : Instr} {s t : State} (he : Effect i s t)
    (hpc : 0 ≤ s.pc ∧ s.pc < s.params.prog.length) (h : StackInv s.params s.frames s.regs.r10) :
    StackInv s.params t.frames t.regs.r10 := by
  obtain ⟨hf, hr⟩ | ⟨d, -, hdepth, rfl⟩ | ⟨f, k, -, hf, rfl⟩ := he.stack_cases
  · rwa [hf, hr]
  · exact h.push hdepth rfl (by simp only [State.callFrame]; omega)
  · rw [← List.dropLast_append_getLast? f hf] at h
    exact h.pop

theorem inv_envStep {s : State} (h : Inv s) : Inv s.envStep := by
  obtain ⟨⟨hwf, hlisted⟩, hstack⟩ := inv_iff.1 h
  rw [inv_iff, State.envStep_params, State.envStep_frames, State.envStep_regs]
  exact ⟨⟨s.envStep_wf hwf, s.envStep_mapped hlisted⟩, hstack⟩

/-- Settles O11: `ENV` and faults keep the invariant, and of the effects only stores, helper calls, local calls and
returns touch what it speaks of. -/
theorem stepKeepsInv : Obligations.StepKeepsInv := by
  intro s t hinv h
  have hinv := inv_envStep hinv
  obtain ⟨c, -, rfl⟩ | ⟨i, hf, he⟩ | ⟨i, c, -, -, rfl⟩ := step_cases h
  · exact hinv
  · obtain ⟨hmem, hstack⟩ := inv_iff.1 hinv
    have hpc : 0 ≤ s.envStep.pc ∧ s.envStep.pc < s.envStep.params.prog.length :=
      pc_lt_of_fetchInstr_ok ((fetchInstr_envStep s).trans hf)
    rw [inv_iff, he.params_eq]
    exact ⟨he.memoryInv hmem, he.stackInv hpc hstack⟩
  · exact hinv

/-- Settles O12: the empty call stack, and a memory that is canonical and mapped by assumption. -/
theorem invAtLaunch : Obligations.InvAtLaunch := by
  have hlaunch (p : Params) (mem0 : Memory) (envDraws : List (List (List Word))) (helperDraws : List (List Word))
      (hmem : MemoryInv p mem0) : Inv (State.launch p mem0 envDraws helperDraws) :=
    inv_iff.2 ⟨hmem, StackInv.nil p⟩
  exact ⟨fun p mem0 e d hwf hlisted => hlaunch p mem0 e d ⟨hwf, hlisted⟩, hlaunch _ _ _ _ ⟨rfl, nofun⟩⟩

/-! ### The stack frames -/

/-- Below the depth limit the frame pointer is the exact difference, without wrapping. -/
theorem toNat_framePointer {p : Params} {k : Nat} (hspan : stackSpan p ≤ p.fp0.toNat) (hk : k ≤ p.maxCallDepth - 1) :
    (framePointer p k).toNat + k * p.frameStride = p.fp0.toNat ∧ k * p.frameStride + p.stackSize ≤ stackSpan p := by
  have hle : k * p.frameStride ≤ (p.maxCallDepth - 1) * p.frameStride := Nat.mul_le_mul_right _ hk
  have hlt := p.fp0.isLt
  simp only [stackSpan] at *
  have hoffset : (BitVec.ofNat 64 (k * p.frameStride)).toNat = k * p.frameStride := by
    rw [BitVec.toNat_ofNat, Nat.mod_eq_of_lt (by omega)]
  refine ⟨?_, by omega⟩
  rw [framePointer, BitVec.toNat_sub_of_le (by rw [BitVec.le_def, hoffset]; omega), hoffset]
  omega

/-- Settles O39: the frames of all depths lie in the one region below `FP0` that the launcher gave. -/
theorem stackFrameAccessible : Obligations.StackFrameAccessible := by
  intro s a n k hlaunch hmax hinv hlo hhi
  obtain ⟨-, -, hspan, ⟨r, hr, hreadable, hwritable, hbase, htop⟩, -⟩ := hlaunch
  obtain ⟨-, hdepth, hr10, -⟩ := inv_iff.1 hinv
  have hk : s.frames.length ≤ s.params.maxCallDepth - 1 := by
    obtain hnil | hlt := hdepth
    · simp [hnil]
    · omega
  obtain ⟨hfp, hframe⟩ := toNat_framePointer hspan hk
  rw [← hr10] at hfp
  have hlt := s.regs.r10.isLt
  exact ⟨by omega, by omega, r, hr, by omega, by omega, fun _ => hreadable, fun _ => hwritable⟩

end Sys2Proof.Machine
end

section
/-! The reads of an instruction: every instruction reads the registers of `readOrder` one after another and then acts on
their values, so a missing value comes before every other fault and each read of one draws one free value (rules R22,
R404, R410). -/

namespace Sys2Proof.Machine

/-- `p` reads the registers of the list in turn, and what it does then has the property `Q` of their values. -/
inductive ReadsThen : (List Word → State → Res Unit → Prop) → List Reg → (State → Res Unit) → Prop
  | done {Q : List Word → State → Res Unit → Prop} {p : State → Res Unit} (h : ∀ s, Q [] s (p s)) : ReadsThen Q [] p
  | read {Q : List Word → State → Res Unit → Prop} {r : Reg} {rs : List Reg} {k : Word → State → Res Unit}
      (h : ∀ v, ReadsThen (fun vs => Q (v :: vs)) rs (k v)) : ReadsThen Q (r :: rs) fun s => (readReg r s).bind k

/-- The register holds no value. -/
def State.lacks (s : State) (r : Reg) : Bool := s.regs.get r == none

theorem State.lacks_eq_false_iff {s : State} {r : Reg} : s.lacks r = false ↔ ∃ v, s.regs.get r = some v := by
  cases h : s.regs.get r <;> simp [State.lacks, h]

section
variable {Q : List Word → State → Res Unit → Prop} {rs : List Reg} {p : State → Res Unit}

/-- When every register holds a value, the reads go through and leave the state as it is. -/
theorem ReadsThen.of_values (h : ReadsThen Q rs p) (s : State) (hv : ∀ q ∈ rs, s.regs.get q ≠ none) :
    ∃ vs, rs.map s.regs.get = vs.map some ∧ Q vs s (p s) := by
  induction h with
  | done h => exact ⟨[], rfl, h s⟩
  | @read Q r rs k h ih =>
    obtain ⟨v, hr⟩ := Option.ne_none_iff_exists'.1 (hv r List.mem_cons_self)
    obtain ⟨vs, hvs, hq⟩ := ih v fun q hq => hv q (List.mem_cons_of_mem _ hq)
    refine ⟨v :: vs, by rw [List.map_cons, List.map_cons, hr, hvs], ?_⟩
    beta_reduce
    rw [readReg_value hr]
    exact hq

/-- Under `UNINIT = fault` the first register without a value is reported (rule R404). -/
theorem ReadsThen.raised (h : ReadsThen Q rs p) {s : State} (hu : s.params.uninit = .fault) {r : Reg}
    (hr : rs.find? s.lacks = some r) : p s = .raised (.uninitRegisterRead r) := by
  induction h with
  | done => cases hr
  | @read Q q rs k h ih =>
    beta_reduce
    cases hq : s.regs.get q with
    | none =>
      rw [List.find?_cons_of_pos (by simp [State.lacks, hq])] at hr
      obtain rfl := Option.some.inj hr
      rw [readReg_fault hq hu, Res.bind_raised]
    | some v =>
      rw [List.find?_cons_of_neg (by simp [State.lacks, hq])] at hr
      rw [readReg_value hq, Res.bind_done]
      exact ih v hr

/-- Under `UNINIT = any` the reads go through and draw one free value for each register without one (rule R22). -/
theorem ReadsThen.of_any (h : ReadsThen Q rs p) {s : State} (hu : s.params.uninit = .any) :
    ∃ vs, Q vs (s.withDraws (s.draws + (rs.filter s.lacks).length)) (p s) := by
  induction h generalizing s with
  | done h => exact ⟨[], h s⟩
  | @read Q r rs k h ih =>
    beta_reduce
    cases hr : s.regs.get r with
    | none =>
      obtain ⟨vs, hq⟩ := ih (Config.uninitRead s.params.run s.draws) (s := s.withDraws (s.draws + 1)) hu
      refine ⟨Config.uninitRead s.params.run s.draws :: vs, ?_⟩
      rw [readReg_any hr hu, Res.bind_done, List.filter_cons_of_pos (by simp [State.lacks, hr]), List.length_cons,
        Nat.add_comm _ 1, ← Nat.add_assoc]
      exact hq
    | some v =>
      obtain ⟨vs, hq⟩ := ih v hu
      refine ⟨v :: vs, ?_⟩
      rw [readReg_value hr, Res.bind_done, List.filter_cons_of_neg (by simp [State.lacks, hr])]
      exact hq

end

/-! ### What an instruction does once its registers are read -/

/-- When it goes through, the count of draws is as before. -/
def KeepsDraws (s : State) (r : Res Unit) : Prop := ∀ t, r = .done () t → t.draws = s.draws

/-- What an instruction does in s after its registers had the values vs: no free value is drawn (but by a helper call), and
its data access, at the address of the first value, faults as the checks say. -/
structure AfterReads (i : Instr) (vs : List Word) (s : State) (r : Res Unit) : Prop where
  keepsDraws : (∀ id, i ≠ .callHelper id) → KeepsDraws s r
  access : ∀ {q off n kind}, dataAccess i = some (q, off, n, kind) → ∃ base, vs.head? = some base ∧
    ∀ c, checkAccess s.params (effectiveAddress base off) n kind = some c → r = .raised c

section
variable {i : Instr} {s : State} {r : Res Unit}

theorem AfterReads.of_no_access {vs : List Word} (ha : dataAccess i = none) (hd : KeepsDraws s r) : AfterReads i vs s r :=
  ⟨fun _ => hd, fun h => by rw [ha] at h; cases h⟩

theorem AfterReads.of_access {base : Word} {vs : List Word} {q : Reg} {off : BitVec 16} {n : Nat} {kind : AccessKind}
    (ha : dataAccess i = some (q, off, n, kind)) (hd : KeepsDraws s r)
    (hr : ∀ c, checkAccess s.params (effectiveAddress base off) n kind = some c → r = .raised c) :
    AfterReads i (base :: vs) s r :=
  ⟨fun _ => hd, fun h => by cases ha.symm.trans h; exact ⟨base, rfl, hr⟩⟩

theorem done_keepsDraws {t : State} (h : t.draws = s.draws) : KeepsDraws s (.done () t) := by rintro _ ⟨⟩; exact h

theorem finish_keepsDraws {rd : Reg} {v : Word} : KeepsDraws s (finish rd v s) := done_keepsDraws rfl

theorem branch_keepsDraws {c : Bool} {d : BitVec 16} : KeepsDraws s (branch c d s) := done_keepsDraws rfl

theorem packetAccess_keepsDraws {n : Nat} {c : Word} {k : Int} : KeepsDraws s (packetAccess n c k s) := by
  intro t h
  obtain ⟨-, ⟨-, rfl⟩ | ⟨-, rfl⟩⟩ := packetAccess_done h <;> rfl

theorem callLocal_keepsDraws {d : BitVec 32} : KeepsDraws s (callLocal d s) := by
  intro t h
  obtain ⟨-, rfl⟩ := callLocal_done h
  rfl

theorem bind_keepsDraws {α : Type} {m : Res α} {k : α → State → Res Unit}
    (h : ∀ a t, m = .done a t → t.draws = s.draws ∧ KeepsDraws t (k a t)) : KeepsDraws s (m.bind k) := by
  intro t ht
  obtain ⟨a, s1, hm, hk⟩ := Res.bind_eq_done.1 ht
  obtain ⟨hd, hk'⟩ := h a s1 hm
  exact (hk' t hk).trans hd

/-! ### The shapes -/

theorem readsNone {p : State → Res Unit} (ha : dataAccess i = none) (hp : ∀ s, KeepsDraws s (p s)) :
    ReadsThen (AfterReads i) [] p :=
  .done fun s => .of_no_access ha (hp s)

theorem readsOne {r : Reg} {k : Word → State → Res Unit} (ha : dataAccess i = none)
    (hk : ∀ a s, KeepsDraws s (k a s)) : ReadsThen (AfterReads i) [r] fun s => (readReg r s).bind k :=
  .read fun a => .done fun s => .of_no_access ha (hk a s)

theorem readsTwo {r q : Reg} {k : Word → Word → State → Res Unit} (ha : dataAccess i = none)
    (hk : ∀ a b s, KeepsDraws s (k a b s)) :
    ReadsThen (AfterReads i) [r, q] fun s => (readReg r s).bind fun a s => (readReg q s).bind fun b s => k a b s :=
  .read fun a => .read fun b => .done fun s => .of_no_access ha (hk a b s)

/-- A read of memory, and what needs no check after it. -/
theorem AfterReads.of_memRead {base : Word} {vs : List Word} {q : Reg} {off : BitVec 16} {n : Nat}
    {k : BitVec (8 * n) → State → Res Unit} (ha : dataAccess i = some (q, off, n, .read))
    (hk : ∀ v s, KeepsDraws s (k v s)) : AfterReads i (base :: vs) s ((memRead (effectiveAddress base off) n s).bind k) :=
  .of_access ha
    (bind_keepsDraws fun v t h => by
      obtain ⟨-, -, rfl⟩ := memRead_done h
      exact ⟨rfl, hk v t⟩)
    fun c hc => by simp only [memRead, hc, Res.bind_raised]

theorem AfterReads.of_memWrite {base : Word} {vs : List Word} {q : Reg} {off : BitVec 16} {n : Nat}
    {v : BitVec (8 * n)} {k : Unit → State → Res Unit} (ha : dataAccess i = some (q, off, n, .write))
    (hk : ∀ u s, KeepsDraws s (k u s)) :
    AfterReads i (base :: vs) s ((memWrite (effectiveAddress base off) n v s).bind k) :=
  .of_access ha
    (bind_keepsDraws fun u t h => by
      obtain ⟨-, rfl⟩ := memWrite_done h
      exact ⟨rfl, hk u _⟩)
    fun c hc => by simp only [memWrite, hc, Res.bind_raised]

theorem AfterReads.of_atomicRMW {base : Word} {vs : List Word} {q : Reg} {off : BitVec 16} {n : Nat}
    {f : BitVec (8 * n) → BitVec (8 * n)} {k : BitVec (8 * n) → State → Res Unit}
    (ha : dataAccess i = some (q, off, n, .readwrite)) (hk : ∀ v s, KeepsDraws s (k v s)) :
    AfterReads i (base :: vs) s ((atomicRMW (effectiveAddress base off) n f s).bind k) :=
  .of_access ha
    (bind_keepsDraws fun v t h => by
      obtain ⟨-, -, rfl⟩ := atomicRMW_done h
      exact ⟨rfl, hk v _⟩)
    fun c hc => by simp only [atomicRMW, hc, Res.bind_raised]

variable {n : Nat} {rd rs : Reg} {off : BitVec 16}

theorem load_readsThen {w : BitVec (8 * n) → Word} (ha : dataAccess i = some (rs, off, n, .read)) :
    ReadsThen (AfterReads i) [rs] (load n w rd rs off) :=
  .read fun _ => .done fun _ => .of_memRead ha fun _ _ => finish_keepsDraws

theorem storeReg_readsThen (ha : dataAccess i = some (rd, off, n, .write)) :
    ReadsThen (AfterReads i) [rd, rs] (storeReg n rd rs off) :=
  .read fun _ => .read fun _ => .done fun _ => .of_memWrite ha fun _ _ => done_keepsDraws rfl

theorem storeImm_readsThen {imm : BitVec 32} (ha : dataAccess i = some (rd, off, n, .write)) :
    ReadsThen (AfterReads i) [rd] (storeImm n rd off imm) :=
  .read fun _ => .done fun _ => .of_memWrite ha fun _ _ => done_keepsDraws rfl

theorem atomicUpdate_readsThen {f : BitVec (8 * n) → BitVec (8 * n) → BitVec (8 * n)}
    (ha : dataAccess i = some (rd, off, n, .readwrite)) :
    ReadsThen (AfterReads i) [rd, rs] (atomicUpdate n f rd rs off) :=
  .read fun _ => .read fun _ => .done fun _ => .of_atomicRMW ha fun _ _ => done_keepsDraws rfl

theorem atomicFetch_readsThen {f : BitVec (8 * n) → BitVec (8 * n) → BitVec (8 * n)}
    (ha : dataAccess i = some (rd, off, n, .readwrite)) :
    ReadsThen (AfterReads i) [rd, rs] (atomicFetch n f rd rs off) :=
  .read fun _ => .read fun _ => .done fun _ => .of_atomicRMW ha fun _ _ => finish_keepsDraws

theorem atomicCompare_readsThen (ha : dataAccess i = some (rd, off, n, .readwrite)) :
    ReadsThen (AfterReads i) [rd, rs, .r0] (atomicCompare n rd rs off) :=
  .read fun _ => .read fun _ => .read fun _ => .done fun _ => .of_atomicRMW ha fun _ _ => finish_keepsDraws

theorem callHelper_readsThen {id : BitVec 32} : ReadsThen (AfterReads (.callHelper id)) [] (callHelper id) :=
  .done fun _ => ⟨fun h => absurd rfl (h id), nofun⟩

theorem exitOrReturn_readsThen : ReadsThen (AfterReads .exit) [.r0] exitOrReturn :=
  readsOne rfl fun v s => by
    split <;> exact done_keepsDraws rfl

end

/-- Every instruction reads the registers of its `readOrder` in turn and then acts on their values. The cases are grouped
by the shape of the meaning. -/
theorem exec_readsThen (i : Instr) (s : State) :
    ∃ p : State → Res Unit, exec i s = commit s (p s) ∧ ReadsThen (AfterReads i) (readOrder i) p := by
  cases i
  case addReg | subReg | mulReg | divReg | modReg | andReg | orReg | xorReg | lshReg | rshReg | arshReg =>
    exact ⟨alu64Reg _ _ _, rfl, readsTwo rfl fun _ _ _ => finish_keepsDraws⟩
  case add32Reg | sub32Reg | mul32Reg | div32Reg | mod32Reg | and32Reg | or32Reg | xor32Reg | lsh32Reg | rsh32Reg |
      arsh32Reg =>
    exact ⟨alu32Reg _ _ _, rfl, readsTwo rfl fun _ _ _ => finish_keepsDraws⟩
  case addImm | subImm | mulImm | divImm | modImm | andImm | orImm | xorImm | lshImm | rshImm | arshImm =>
    exact ⟨alu64Imm _ _ _, rfl, readsOne rfl fun _ _ => finish_keepsDraws⟩
  case add32Imm | sub32Imm | mul32Imm | div32Imm | mod32Imm | and32Imm | or32Imm | xor32Imm | lsh32Imm | rsh32Imm |
      arsh32Imm =>
    exact ⟨alu32Imm _ _ _, rfl, readsOne rfl fun _ _ => finish_keepsDraws⟩
  case neg | neg32 | endle16 | endle32 | endle64 | endbe16 | endbe32 | endbe64 | bswap16 | bswap32 | bswap64 =>
    exact ⟨alu64Unary _ _, rfl, readsOne rfl fun _ _ => finish_keepsDraws⟩
  case movReg | movs8 | movs16 | movs32 | mov32Reg | mov32s8 | mov32s16 | mov32s32 =>
    exact ⟨move _ _ _, rfl, readsOne rfl fun _ _ => finish_keepsDraws⟩
  case movImm | mov32Imm =>
    exact ⟨finish _ _, rfl, readsNone rfl fun _ => finish_keepsDraws⟩
  case lddw =>
    exact ⟨fun s => .done () ((s.setReg _ _).advance 2), rfl, readsNone rfl fun _ => done_keepsDraws rfl⟩
  case jeqReg | jgtReg | jgeReg | jltReg | jleReg | jsetReg | jneReg | jsgtReg | jsgeReg | jsltReg | jsleReg =>
    exact ⟨jump64Reg _ _ _ _, rfl, readsTwo rfl fun _ _ _ => branch_keepsDraws⟩
  case jeq32Reg | jgt32Reg | jge32Reg | jlt32Reg | jle32Reg | jset32Reg | jne32Reg | jsgt32Reg | jsge32Reg |
      jslt32Reg | jsle32Reg =>
    exact ⟨jump32Reg _ _ _ _, rfl, readsTwo rfl fun _ _ _ => branch_keepsDraws⟩
  case jeqImm | jgtImm | jgeImm | jltImm | jleImm | jsetImm | jneImm | jsgtImm | jsgeImm | jsltImm | jsleImm =>
    exact ⟨jump64Imm _ _ _ _, rfl, readsOne rfl fun _ _ => branch_keepsDraws⟩
  case jeq32Imm | jgt32Imm | jge32Imm | jlt32Imm | jle32Imm | jset32Imm | jne32Imm | jsgt32Imm | jsge32Imm |
      jslt32Imm | jsle32Imm =>
    exact ⟨jump32Imm _ _ _ _, rfl, readsOne rfl fun _ _ => branch_keepsDraws⟩
  case ja | jal =>
    exact ⟨jumpAlways _, rfl, readsNone rfl fun _ => done_keepsDraws rfl⟩
  case ldabsw | ldabsh | ldabsb =>
    exact ⟨packetAbsolute _ _, rfl, readsOne rfl fun _ _ => packetAccess_keepsDraws⟩
  case ldindw | ldindh | ldindb =>
    exact ⟨packetIndirect _ _ _, rfl, readsTwo rfl fun _ _ _ => packetAccess_keepsDraws⟩
  case ldxdw | ldxw | ldxh | ldxb | ldxsdw | ldxsw | ldxsh | ldxsb =>
    exact ⟨load _ _ _ _ _, rfl, load_readsThen rfl⟩
  case stxdw | stxw | stxh | stxb =>
    exact ⟨storeReg _ _ _ _, rfl, storeReg_readsThen rfl⟩
  case stdw | stw | sth | stb =>
    exact ⟨storeImm _ _ _ _, rfl, storeImm_readsThen rfl⟩
  case aadd | aor | aand | axor | aadd32 | aor32 | aand32 | axor32 =>
    exact ⟨atomicUpdate _ _ _ _ _, rfl, atomicUpdate_readsThen rfl⟩
  case axchg | afadd | afor | afand | afxor | axchg32 | afadd32 | afor32 | afand32 | afxor32 =>
    exact ⟨atomicFetch _ _ _ _ _, rfl, atomicFetch_readsThen rfl⟩
  case acmp | acmp32 =>
    exact ⟨atomicCompare _ _ _ _, rfl, atomicCompare_readsThen rfl⟩
  case callLocal =>
    exact ⟨callLocal _, rfl, readsNone rfl fun _ => callLocal_keepsDraws⟩
  case callHelper =>
    exact ⟨callHelper _, rfl, callHelper_readsThen⟩
  case exit =>
    exact ⟨exitOrReturn, rfl, exitOrReturn_readsThen⟩

/-- The base register of a data access is read first. -/
theorem readOrder_of_dataAccess {i : Instr} {r : Reg} {off : BitVec 16} {n : Nat} {kind : AccessKind}
    (h : dataAccess i = some (r, off, n, kind)) : ∃ rs, readOrder i = r :: rs := by
  cases i
  case ldxdw | ldxw | ldxh | ldxb | ldxsdw | ldxsw | ldxsh | ldxsb | stxdw | stxw | stxh | stxb | stdw | stw | sth |
      stb | aadd | aor | aand | axor | aadd32 | aor32 | aand32 | axor32 | axchg | afadd | afor | afand | afxor |
      axchg32 | afadd32 | afor32 | afand32 | afxor32 | acmp | acmp32 =>
    cases h
    exact ⟨_, rfl⟩
  all_goals cases h

/-! ### The checks of an access, in the order of rule R56 -/

theorem checkAccess_of_misaligned {p : Params} {ea : Word} {n : Nat} {k : AccessKind} (hm : ea.toNat % n ≠ 0)
    (hk : k = .readwrite ∨ p.align = .strict) : checkAccess p ea n k = some (.misalignedAccess ea n) := by
  have hsplit : ¬ (k ≠ .readwrite ∧ p.align = .split) := by
    rintro ⟨hne, hal⟩
    obtain rfl | hal' := hk
    · exact hne rfl
    · rw [hal] at hal'
      cases hal'
  rw [checkAccess, if_neg hm, if_neg hsplit]

theorem checkAccess_of_outside {p : Params} {ea : Word} {n : Nat} {k : AccessKind} (hm : ea.toNat % n = 0)
    (hr : ¬ InRegion p ea.toNat n k) : checkAccess p ea n k = some (.memoryAccessFault ea n k) := by
  rw [checkAccess, if_pos hm, if_neg (fun h => hr (accessible_iff.1 h))]

theorem checkAccess_of_split_outside {p : Params} {ea : Word} {n : Nat} {k : AccessKind} (hm : ea.toNat % n ≠ 0)
    (hk : k ≠ .readwrite) (hal : p.align = .split) (hr : ∃ j < n, ¬ InRegion p (ea.toNat + j) 1 k) :
    checkAccess p ea n k = some (.memoryAccessFault ea n k) := by
  obtain ⟨j, hj, hout⟩ := hr
  rw [checkAccess, if_neg hm, if_pos ⟨hk, hal⟩, if_neg (fun h => hout (accessibleBytes_iff.1 h j hj))]

/-- The effective address of rule R54, with the offset as an integer. -/
theorem effectiveAddress_eq (b : Word) (off : BitVec 16) : effectiveAddress b off = b + BitVec.ofInt 64 off.toInt := rfl

/-- An access that its checks do not let through takes the fault they name, when every register read holds a value. -/
theorem exec_of_checkAccess_some {i : Instr} {s : State} {r : Reg} {off : BitVec 16} {n : Nat} {k : AccessKind}
    {b : Word} {c : FaultCause} (ha : dataAccess i = some (r, off, n, k)) (hv : ∀ q ∈ readOrder i, s.regs.get q ≠ none)
    (hb : s.regs.get r = some b) (hc : checkAccess s.params (effectiveAddress b off) n k = some c) :
    exec i s = faulted s c := by
  obtain ⟨p, hexec, hreads⟩ := exec_readsThen i s
  obtain ⟨vs, hvs, hafter⟩ := hreads.of_values s hv
  obtain ⟨base, hhead, hraise⟩ := hafter.access ha
  obtain ⟨rs, hrs⟩ := readOrder_of_dataAccess ha
  obtain ⟨ws, rfl⟩ := List.head?_eq_some_iff.1 hhead
  rw [hrs, List.map_cons, List.map_cons, hb] at hvs
  obtain rfl : b = base := Option.some.inj (List.cons.inj hvs).1
  rw [hexec, hraise c hc, commit_raised]
  rfl

/-- Settles O36: the reads go through, and the checks raise the fault of the first one that fails. -/
theorem accessFaults : Obligations.AccessFaults := by
  rintro i s r off n k b ea ha hv hb rfl
  have hfault {c : FaultCause} (hc : checkAccess s.params (b + BitVec.ofInt 64 off.toInt) n k = some c) :
      exec i s = faulted s c :=
    exec_of_checkAccess_some ha hv hb ((effectiveAddress_eq b off).symm ▸ hc)
  exact ⟨fun hm hk => hfault (checkAccess_of_misaligned hm hk), fun hm hr => hfault (checkAccess_of_outside hm hr),
    fun hm hk hal hr => hfault (checkAccess_of_split_outside hm hk hal hr)⟩

/-! ### Registers without value -/

/-- An instruction reports a missing value only of a register it reads, and only under `UNINIT = fault`. -/
theorem Raises.of_uninitRegisterRead {i : Instr} {s : State} {r : Reg} (h : Raises i s (.uninitRegisterRead r)) :
    r ∈ readOrder i ∧ s.params.uninit = .fault := by
  cases h with
  | uninit _ hr _ hu => exact ⟨hr, hu⟩
  | access _ _ _ _ _ _ hc => obtain hc | hc := checkAccess_some hc <;> cases hc

/-- A register that holds a value holds one after a write to any register. -/
theorem RegFile.get_set_ne_none (f : RegFile) (r : Reg) (v : Word) {q : Reg} (h : f.get q ≠ none) :
    (f.set r v).get q ≠ none := by
  by_cases hq : q = r
  · subst hq
    by_cases h10 : q = .r10
    · subst h10; exact h
    · rw [RegFile.get_set_same _ _ h10]; nofun
  · rwa [RegFile.get_set_other _ _ hq]

/-- Only calls, packet loads and `exit` empty registers (rules R22, R245, R315 to R317). -/
theorem Effect.get_ne_none {i : Instr} {s t : State} (h : Effect i s t) (hp : packetBytes i = none)
    (hl : ∀ d, i ≠ .callLocal d) (hh : ∀ id, i ≠ .callHelper id) (hx : i ≠ .exit) {q : Reg}
    (hq : s.regs.get q ≠ none) : t.regs.get q ≠ none := by
  cases h
  case writes rd v _ _ _ _ _ _ _ _ => exact RegFile.get_set_ne_none _ rd v hq
  case loads rd _ _ _ v _ _ _ _ _ _ _ _ => exact RegFile.get_set_ne_none _ rd v hq
  case stores dest _ v _ _ _ _ _ _ _ _ =>
    cases dest with
    | none => exact hq
    | some d => exact RegFile.get_set_ne_none _ d v hq
  case packetLoad hp' _ => rw [hp] at hp'; cases hp'
  case call d hi _ => exact absurd hi (hl d)
  case helper id _ hi _ => exact absurd hi (hh id)
  case exitReturn hi _ _ => exact absurd hi hx
  all_goals exact hq

/-- Settles O54: the reads come first and in order, and nothing else reports a missing value. -/
theorem uninitRegisterReads : Obligations.UninitRegisterReads := by
  refine ⟨fun i s r hu hr => ?_, fun s => nofun, fun i s t h hp hl hh hx h1 => ?_, fun i s t r p hs hu h ht => ?_,
    fun r s hu hr => readReg_any hr hu, fun id s t r p hs h ht => ?_⟩
  · obtain ⟨p, hexec, hreads⟩ := exec_readsThen i s
    rw [hexec, hreads.raised hu hr, commit_raised]
    rfl
  · obtain he | ⟨c, -, rfl⟩ := exec_next h
    · exact he.get_ne_none hp hl hh hx (q := .r1) h1
    · exact h1
  · have hfault := (exec_faulted hs h ht).1.of_uninitRegisterRead.2
    rw [hu] at hfault
    cases hfault
  · have hread := (exec_faulted hs h ht).1.of_uninitRegisterRead.1
    cases hread

theorem exec_addImm (rd : Reg) (imm : BitVec 32) (s : State) :
    exec (.addImm rd imm) s = commit s (alu64Imm (fun a b => a + b) rd imm s) := rfl

theorem exec_addReg (rd rs : Reg) (s : State) :
    exec (.addReg rd rs) s = commit s (alu64Reg (fun a b => a + b) rd rs s) := rfl

/-- Settles O55: each read of a register without value draws one free value, and nothing after the reads draws. -/
theorem uninitAnyReadsFreeValues : Obligations.UninitAnyReadsFreeValues := by
  refine ⟨fun s r hu hr => readReg_any hr hu, fun i s t hu h ht hi => ?_, fun s rd rs imm hu => ⟨?_, ?_, ?_⟩⟩
  · obtain ⟨p, hexec, hreads⟩ := exec_readsThen i s
    obtain ⟨vs, hafter⟩ := hreads.of_any hu
    obtain hp | ⟨c, -, rfl⟩ := commit_cases (hexec.symm.trans h)
    · exact hafter.keepsDraws hi t hp
    · exact absurd (State.raise_status s c) (ht c s.pc)
  · intro hrd
    rw [exec_addImm, alu64Imm, readReg_any hrd hu, Res.bind_done, finish, commit_done]
    rfl
  · intro hrd hrs
    rw [exec_addReg, alu64Reg, readReg_any hrd hu, Res.bind_done,
      readReg_any (s := s.withDraws (s.draws + 1)) hrs hu, Res.bind_done, finish, commit_done]
    rfl
  · intro h0 hf
    have hlast : (s.withDraws (s.draws + 1)).frames.getLast? = none := by simp [hf]
    rw [exec_exit, exitOrReturn, readReg_any (r := .r0) h0 hu, Res.bind_done, hlast]
    rfl

end Sys2Proof.Machine
end

section
/-! The family of arithmetic: what each operation computes as a number, and that an instruction of each shape whose
operands hold values writes it (rules R140 to R229). -/

namespace Sys2Proof.Machine

/-! ### The shapes, when the operands hold values -/

section
variable {s : State} {rd rs : Reg} {a b : Word}

theorem commit_finish (s : State) (rd : Reg) (v : Word) : commit s (finish rd v s) = wrote s rd v := rfl

theorem commit_alu64Reg (ha : s.regs.get rd = some a) (hb : s.regs.get rs = some b) (f : Word → Word → Word) :
    commit s (alu64Reg f rd rs s) = wrote s rd (f a b) := by
  rw [alu64Reg, readReg_value ha, Res.bind_done, readReg_value hb, Res.bind_done, commit_finish]

theorem commit_alu64Imm (ha : s.regs.get rd = some a) (imm : BitVec 32) (f : Word → Word → Word) :
    commit s (alu64Imm f rd imm s) = wrote s rd (f a (sext64 imm)) := by
  rw [alu64Imm, readReg_value ha, Res.bind_done, commit_finish]

theorem commit_alu64Unary (ha : s.regs.get rd = some a) (f : Word → Word) :
    commit s (alu64Unary f rd s) = wrote s rd (f a) := by
  rw [alu64Unary, readReg_value ha, Res.bind_done, commit_finish]

theorem commit_move (hb : s.regs.get rs = some b) (rd : Reg) (f : Word → Word) :
    commit s (move f rd rs s) = wrote s rd (f b) := by
  rw [move, readReg_value hb, Res.bind_done, commit_finish]

theorem commit_alu32Reg (ha : s.regs.get rd = some a) (hb : s.regs.get rs = some b)
    (f : BitVec 32 → BitVec 32 → BitVec 32) :
    commit s (alu32Reg f rd rs s) = wrote s rd (zext64 (f (low32 a) (low32 b))) :=
  commit_alu64Reg ha hb _

theorem commit_alu32Imm (ha : s.regs.get rd = some a) (imm : BitVec 32) (f : BitVec 32 → BitVec 32 → BitVec 32) :
    commit s (alu32Imm f rd imm s) = wrote s rd (zext64 (f (low32 a) imm)) := by
  rw [alu32Imm, readReg_value ha, Res.bind_done, commit_finish]

end

/-! ### Widening and narrowing -/

theorem sext64_eq {n : Nat} (v : BitVec n) : sext64 v = BitVec.ofInt 64 v.toInt := rfl

theorem zext64_eq {n : Nat} (v : BitVec n) : zext64 v = BitVec.ofNat 64 v.toNat := (BitVec.ofNat_toNat 64 v).symm

theorem low32_eq (v : Word) : low32 v = BitVec.ofNat 32 v.toNat := (BitVec.ofNat_toNat 32 v).symm

theorem toNat_low32 (v : Word) : (low32 v).toNat = v.toNat % 2 ^ 32 := BitVec.toNat_setWidth 32 v

theorem shiftAmount64_eq (b : Word) : shiftAmount64 b = b.toNat % 64 := BitVec.toNat_setWidth 6 b

theorem shiftAmount32_eq (b : BitVec 32) : shiftAmount32 b = b.toNat % 32 := BitVec.toNat_setWidth 5 b

/-! ### The operations as numbers -/

section
variable {n : Nat} (a b : BitVec n)

theorem toNat_divide : (divide a b).toNat = if b.toNat = 0 then 0 else a.toNat / b.toNat := by
  have hb : b = 0 ↔ b.toNat = 0 := BitVec.toNat_eq (y := 0)
  unfold divide
  simp only [hb]
  split
  · rfl
  · rw [BitVec.toNat_ofNat, Nat.mod_eq_of_lt (Nat.lt_of_le_of_lt (Nat.div_le_self _ _) a.isLt)]

theorem toNat_remainder : (remainder a b).toNat = if b.toNat = 0 then a.toNat else a.toNat % b.toNat := by
  have hb : b = 0 ↔ b.toNat = 0 := BitVec.toNat_eq (y := 0)
  unfold remainder
  simp only [hb]
  split
  · rfl
  · rw [BitVec.toNat_ofNat, Nat.mod_eq_of_lt (Nat.lt_of_le_of_lt (Nat.mod_le _ _) a.isLt)]

theorem eq_ofNat_of_toNat_mod {m : Nat} (h : a.toNat = m % 2 ^ n) : a = BitVec.ofNat n m :=
  BitVec.eq_of_toNat_eq (h.trans (BitVec.toNat_ofNat m n).symm)

theorem eq_ofNat_of_toNat {m : Nat} (h : a.toNat = m) : a = BitVec.ofNat n m :=
  h ▸ (BitVec.ofNat_toNat n a).symm ▸ (BitVec.setWidth_eq a).symm

theorem toNat_sub_eq : (a - b).toNat = (a.toNat + (2 ^ n - b.toNat)) % 2 ^ n := by
  rw [BitVec.toNat_sub, Nat.add_comm]

theorem toNat_shiftLeft_eq (k : Nat) : (a <<< k).toNat = a.toNat * 2 ^ k % 2 ^ n := by
  rw [BitVec.toNat_shiftLeft, Nat.shiftLeft_eq]

theorem toNat_ushiftRight_eq (k : Nat) : (a >>> k).toNat = a.toNat / 2 ^ k := by
  rw [BitVec.toNat_ushiftRight, Nat.shiftRight_eq_div_pow]

theorem sshiftRight_eq_ofInt (k : Nat) : a.sshiftRight k = BitVec.ofInt n (a.toInt / 2 ^ k) := by
  rw [BitVec.sshiftRight, Int.shiftRight_eq_div_pow]
  norm_cast

end

theorem divide_eq_ite (a b : Word) : divide a b = if b.toNat = 0 then 0 else BitVec.ofNat 64 (a.toNat / b.toNat) := by
  rw [eq_ofNat_of_toNat _ (toNat_divide a b), apply_ite (BitVec.ofNat 64)]
  rfl

theorem remainder_eq_ite (a b : Word) :
    remainder a b = if b.toNat = 0 then a else BitVec.ofNat 64 (a.toNat % b.toNat) := by
  rw [eq_ofNat_of_toNat _ (toNat_remainder a b), apply_ite (BitVec.ofNat 64), BitVec.ofNat_toNat, BitVec.setWidth_eq]

theorem lsh64_eq (a b : Word) : lsh64 a b = BitVec.ofNat 64 (a.toNat * 2 ^ (b.toNat % 64)) := by
  rw [lsh64, shiftAmount64_eq]
  exact eq_ofNat_of_toNat_mod _ (toNat_shiftLeft_eq _ _)

theorem rsh64_eq (a b : Word) : rsh64 a b = BitVec.ofNat 64 (a.toNat / 2 ^ (b.toNat % 64)) := by
  rw [rsh64, shiftAmount64_eq]
  exact eq_ofNat_of_toNat _ (toNat_ushiftRight_eq _ _)

theorem arsh64_eq (a b : Word) : arsh64 a b = BitVec.ofInt 64 (a.toInt / 2 ^ (b.toNat % 64)) := by
  rw [arsh64, shiftAmount64_eq, sshiftRight_eq_ofInt]

theorem toNat_lsh32 (a b : BitVec 32) : (lsh32 a b).toNat = a.toNat * 2 ^ (b.toNat % 32) % 2 ^ 32 := by
  rw [lsh32, shiftAmount32_eq, toNat_shiftLeft_eq]

theorem toNat_rsh32 (a b : BitVec 32) : (rsh32 a b).toNat = a.toNat / 2 ^ (b.toNat % 32) := by
  rw [rsh32, shiftAmount32_eq, toNat_ushiftRight_eq]

theorem toNat_arsh32 (a b : BitVec 32) :
    (arsh32 a b).toNat = (BitVec.ofInt 32 ((BitVec.ofNat 32 a.toNat).toInt / 2 ^ (b.toNat % 32))).toNat := by
  rw [arsh32, shiftAmount32_eq, sshiftRight_eq_ofInt, BitVec.ofNat_toNat, BitVec.setWidth_eq]

theorem zext64_of_toNat {v : BitVec 32} {m : Nat} (h : v.toNat = m) : zext64 v = BitVec.ofNat 64 m := by
  rw [zext64_eq, h]

/-! ### The statements on arithmetic -/

/-- Settles O22. -/
theorem alu64RegisterForms : Obligations.Alu64RegisterForms := by
  intro s rd rs a b ha hb
  have h {f : Word → Word → Word} {v : Word} (hv : f a b = v) : commit s (alu64Reg f rd rs s) = wrote s rd v :=
    hv ▸ commit_alu64Reg ha hb f
  exact ⟨h (eq_ofNat_of_toNat_mod _ (BitVec.toNat_add a b)), h (eq_ofNat_of_toNat_mod _ (toNat_sub_eq a b)),
    h (eq_ofNat_of_toNat_mod _ (BitVec.toNat_mul a b)), h (divide_eq_ite a b), h (remainder_eq_ite a b),
    h (eq_ofNat_of_toNat _ (BitVec.toNat_and a b)), h (eq_ofNat_of_toNat _ (BitVec.toNat_or a b)),
    h (eq_ofNat_of_toNat _ (BitVec.toNat_xor a b)), h (lsh64_eq a b), h (rsh64_eq a b), h (arsh64_eq a b)⟩

/-- Settles O23: the second operand is the immediate sign-extended. -/
theorem alu64ImmediateForms : Obligations.Alu64ImmediateForms := by
  intro s rd imm a b ha hb
  have h {f : Word → Word → Word} {v : Word} (hv : f a b = v) : commit s (alu64Imm f rd imm s) = wrote s rd v :=
    hv ▸ hb ▸ commit_alu64Imm ha imm f
  exact ⟨h (eq_ofNat_of_toNat_mod _ (BitVec.toNat_add a b)), h (eq_ofNat_of_toNat_mod _ (toNat_sub_eq a b)),
    h (eq_ofNat_of_toNat_mod _ (BitVec.toNat_mul a b)), h (divide_eq_ite a b), h (remainder_eq_ite a b),
    h (eq_ofNat_of_toNat _ (BitVec.toNat_and a b)), h (eq_ofNat_of_toNat _ (BitVec.toNat_or a b)),
    h (eq_ofNat_of_toNat _ (BitVec.toNat_xor a b)), h (lsh64_eq a b), h (rsh64_eq a b), h (arsh64_eq a b)⟩

/-- Settles O24. -/
theorem alu64Moves : Obligations.Alu64Moves := by
  refine ⟨fun s rd a ha => ?_, fun s rd imm => rfl, fun s rd rs b hb => ?_⟩
  · have hneg : -a = BitVec.ofInt 64 (-a.toInt) := by rw [BitVec.ofInt_neg, BitVec.ofInt_toInt]
    exact hneg ▸ commit_alu64Unary ha (fun v => -v)
  · have h {f : Word → Word} {v : Word} (hv : f b = v) : commit s (move f rd rs s) = wrote s rd v :=
      hv ▸ commit_move hb rd f
    have hsext (n : Nat) : sext64 (b.setWidth n) = BitVec.ofInt 64 (BitVec.ofNat n b.toNat).toInt := by
      rw [sext64_eq, BitVec.ofNat_toNat]
    exact ⟨h rfl, h (hsext 8), h (hsext 16), h (hsext 32)⟩

/-- Settles O25. -/
theorem alu32RegisterForms : Obligations.Alu32RegisterForms := by
  intro s rd rs a b x y ha hb hx hy
  rw [← toNat_low32] at hx hy
  have h {f : BitVec 32 → BitVec 32 → BitVec 32} {m : Nat} (hm : (f (low32 a) (low32 b)).toNat = m) :
      commit s (alu32Reg f rd rs s) = wrote s rd (BitVec.ofNat 64 m) :=
    zext64_of_toNat hm ▸ commit_alu32Reg ha hb f
  subst hx hy
  exact ⟨h (BitVec.toNat_add _ _), h (toNat_sub_eq _ _), h (BitVec.toNat_mul _ _), h (toNat_divide _ _),
    h (toNat_remainder _ _), h (BitVec.toNat_and _ _), h (BitVec.toNat_or _ _), h (BitVec.toNat_xor _ _),
    h (toNat_lsh32 _ _), h (toNat_rsh32 _ _), h (toNat_arsh32 _ _)⟩

/-- Settles O26. -/
theorem alu32ImmediateForms : Obligations.Alu32ImmediateForms := by
  intro s rd imm a x y ha hx hy
  rw [← toNat_low32] at hx
  have h {f : BitVec 32 → BitVec 32 → BitVec 32} {m : Nat} (hm : (f (low32 a) imm).toNat = m) :
      commit s (alu32Imm f rd imm s) = wrote s rd (BitVec.ofNat 64 m) :=
    zext64_of_toNat hm ▸ commit_alu32Imm ha imm f
  subst hx hy
  exact ⟨h (BitVec.toNat_add _ _), h (toNat_sub_eq _ _), h (BitVec.toNat_mul _ _), h (toNat_divide _ _),
    h (toNat_remainder _ _), h (BitVec.toNat_and _ _), h (BitVec.toNat_or _ _), h (BitVec.toNat_xor _ _),
    h (toNat_lsh32 _ _), h (toNat_rsh32 _ _), h (toNat_arsh32 _ _)⟩

/-- Settles O27. -/
theorem alu32Moves : Obligations.Alu32Moves := by
  refine ⟨fun s rd a ha => ?_, fun s rd imm => ?_, fun s rd rs b hb => ?_⟩
  · have hneg : (-low32 a).toNat = (2 ^ 32 - a.toNat % 2 ^ 32) % 2 ^ 32 := by rw [BitVec.toNat_neg, toNat_low32]
    exact zext64_of_toNat hneg ▸ commit_alu64Unary ha (fun v => zext64 (-low32 v))
  · exact zext64_eq imm ▸ commit_finish s rd (zext64 imm)
  · have h {f : Word → BitVec 32} {m : Nat} (hm : (f b).toNat = m) :
        commit s (move (fun v => zext64 (f v)) rd rs s) = wrote s rd (BitVec.ofNat 64 m) :=
      zext64_of_toNat hm ▸ commit_move hb rd _
    have hsext (n : Nat) : ((b.setWidth n).signExtend 32).toNat =
        (BitVec.ofInt 32 (BitVec.ofNat n b.toNat).toInt).toNat := by
      rw [BitVec.ofNat_toNat, BitVec.signExtend]
    exact ⟨h (toNat_low32 b), h (hsext 8), h (hsext 16), h (hsext 32)⟩

/-! ### Byte order -/

theorem toNat_append_eq {n m : Nat} (x : BitVec n) (y : BitVec m) : (x ++ y).toNat = x.toNat * 2 ^ m + y.toNat := by
  rw [BitVec.toNat_append, ← Nat.shiftLeft_add_eq_or_of_lt y.isLt, Nat.shiftLeft_eq]

theorem toNat_byte {n : Nat} (v : BitVec n) (k : Nat) : (v.extractLsb' k 8).toNat = v.toNat / 2 ^ k % 256 := by
  rw [BitVec.extractLsb'_toNat, Nat.shiftRight_eq_div_pow]

/-- Reversing k bytes looks at the low k bytes only. -/
theorem reverseBytes_mod (k v : Nat) : reverseBytes k (v % 256 ^ k) = reverseBytes k v := by
  induction k generalizing v with
  | zero => rfl
  | succ k ih =>
    have hlow : v % 256 ^ (k + 1) % 256 = v % 256 := Nat.mod_mod_of_dvd v (dvd_pow_self 256 (Nat.succ_ne_zero k))
    have hhigh : v % 256 ^ (k + 1) / 256 = v / 256 % 256 ^ k := by rw [Nat.pow_succ', Nat.mod_mul_right_div_self]
    rw [reverseBytes, reverseBytes, hlow, hhigh, ih]

theorem toNat_swap16 (v : BitVec 16) : (swap16 v).toNat = reverseBytes 2 v.toNat := by
  simp only [swap16, toNat_append_eq, toNat_byte, reverseBytes]
  norm_num
theorem toNat_swap32 (v : BitVec 32) : (swap32 v).toNat = reverseBytes 4 v.toNat := by
  simp only [swap32, toNat_append_eq, toNat_byte, reverseBytes, Nat.div_div_eq_div_mul]
  norm_num
  ring

theorem toNat_swap64 (v : Word) : (swap64 v).toNat = reverseBytes 8 v.toNat := by
  simp only [swap64, toNat_append_eq, toNat_byte, reverseBytes, Nat.div_div_eq_div_mul]
  norm_num
  ring

section
variable {n k : Nat} {swap : BitVec n → BitVec n}

theorem zext64_swap (hswap : ∀ v, (swap v).toNat = reverseBytes k v.toNat) (hn : 2 ^ n = 256 ^ k) (a : Word) :
    zext64 (swap (a.setWidth n)) = BitVec.ofNat 64 (reverseBytes k a.toNat) := by
  rw [zext64_eq, hswap, BitVec.toNat_setWidth, hn, reverseBytes_mod]

theorem zext64_convertOrder (hswap : ∀ v, (swap v).toNat = reverseBytes k v.toNat) (hn : 2 ^ n = 256 ^ k)
    (machine wanted : Endian) (a : Word) :
    zext64 (convertOrder swap machine wanted (a.setWidth n)) =
      BitVec.ofNat 64 (if machine = wanted then a.toNat % 2 ^ n else reverseBytes k a.toNat) := by
  unfold convertOrder
  split
  · rw [zext64_eq, BitVec.toNat_setWidth]
  · exact zext64_swap hswap hn a

end

/-- Settles O28. -/
theorem endianConversions : Obligations.EndianConversions := by
  intro s rd a ha
  have h {n k : Nat} {swap : BitVec n → BitVec n} {wanted : Endian}
      (hswap : ∀ v, (swap v).toNat = reverseBytes k v.toNat) (hn : 2 ^ n = 256 ^ k) :
      commit s (alu64Unary (fun v => zext64 (convertOrder swap s.params.endian wanted (v.setWidth n))) rd s) =
        wrote s rd (BitVec.ofNat 64 (if s.params.endian = wanted then a.toNat % 2 ^ n else reverseBytes k a.toNat)) :=
    zext64_convertOrder hswap hn s.params.endian wanted a ▸ commit_alu64Unary ha _
  exact ⟨h toNat_swap16 (by norm_num), h toNat_swap32 (by norm_num), h toNat_swap64 (by norm_num),
    h toNat_swap16 (by norm_num), h toNat_swap32 (by norm_num), h toNat_swap64 (by norm_num)⟩

/-- Settles O29. -/
theorem byteSwaps : Obligations.ByteSwaps := by
  intro s rd a ha
  have h {n k : Nat} {swap : BitVec n → BitVec n} (hswap : ∀ v, (swap v).toNat = reverseBytes k v.toNat)
      (hn : 2 ^ n = 256 ^ k) :
      commit s (alu64Unary (fun v => zext64 (swap (v.setWidth n))) rd s) =
        wrote s rd (BitVec.ofNat 64 (reverseBytes k a.toNat)) :=
    zext64_swap hswap hn a ▸ commit_alu64Unary ha _
  exact ⟨h toNat_swap16 (by norm_num), h toNat_swap32 (by norm_num), h toNat_swap64 (by norm_num)⟩

end Sys2Proof.Machine
end

section
/-! The family of jumps: the conditions as comparisons of numbers, and that a jump whose operands hold values goes to its
target or to the next slot (rules R290 to R352). -/

namespace Sys2Proof.Machine

section
variable {s : State} {rd rs : Reg} {a b : Word}

theorem commit_branch (s : State) (taken : Bool) (d : BitVec 16) :
    commit s (branch taken d s) = jumped s taken d.toInt := by
  cases taken
  · simp [branch, jumped, State.goto]
  · rfl

theorem commit_jump64Reg (ha : s.regs.get rd = some a) (hb : s.regs.get rs = some b) (d : BitVec 16)
    (c : Word → Word → Bool) : commit s (jump64Reg c rd rs d s) = jumped s (c a b) d.toInt := by
  rw [jump64Reg, readReg_value ha, Res.bind_done, readReg_value hb, Res.bind_done, commit_branch]

theorem commit_jump64Imm (ha : s.regs.get rd = some a) (imm : BitVec 32) (d : BitVec 16) (c : Word → Word → Bool) :
    commit s (jump64Imm c rd imm d s) = jumped s (c a (sext64 imm)) d.toInt := by
  rw [jump64Imm, readReg_value ha, Res.bind_done, commit_branch]

theorem commit_jump32Reg (ha : s.regs.get rd = some a) (hb : s.regs.get rs = some b) (d : BitVec 16)
    (c : BitVec 32 → BitVec 32 → Bool) :
    commit s (jump32Reg c rd rs d s) = jumped s (c (low32 a) (low32 b)) d.toInt := by
  rw [jump32Reg, readReg_value ha, Res.bind_done, readReg_value hb, Res.bind_done, commit_branch]

theorem commit_jump32Imm (ha : s.regs.get rd = some a) (imm : BitVec 32) (d : BitVec 16)
    (c : BitVec 32 → BitVec 32 → Bool) : commit s (jump32Imm c rd imm d s) = jumped s (c (low32 a) imm) d.toInt := by
  rw [jump32Imm, readReg_value ha, Res.bind_done, commit_branch]

end

section
variable {n : Nat} (a b : BitVec n)

theorem condEq_eq : condEq a b = decide (a = b) := beq_eq_decide a b

theorem condNe_eq : condNe a b = decide (a ≠ b) := by rw [condNe, bne, beq_eq_decide, decide_not]

theorem condSet_eq : condSet a b = decide (a.toNat &&& b.toNat ≠ 0) := by
  have hzero : a &&& b = 0 ↔ a.toNat &&& b.toNat = 0 := by
    rw [BitVec.toNat_eq, BitVec.toNat_and]
    rfl
  rw [condSet, bne, beq_eq_decide, ← decide_not, decide_eq_decide, ne_eq, hzero]

end

/-- Settles O40. -/
theorem unconditionalJumps : Obligations.UnconditionalJumps := ⟨fun _ _ => rfl, fun _ _ => rfl⟩

/-- Settles O41. -/
theorem jumps64RegisterForms : Obligations.Jumps64RegisterForms := by
  intro s rd rs d a b ha hb
  have h {c : Word → Word → Bool} {taken : Bool} (hc : c a b = taken) :
      commit s (jump64Reg c rd rs d s) = jumped s taken d.toInt :=
    hc ▸ commit_jump64Reg ha hb d c
  exact ⟨h (condEq_eq a b), h (condNe_eq a b), h (c := condGt) rfl, h (c := condGe) rfl, h (c := condLt) rfl,
    h (c := condLe) rfl, h (condSet_eq a b), h (c := condSgt) rfl, h (c := condSge) rfl, h (c := condSlt) rfl,
    h (c := condSle) rfl⟩

/-- Settles O42: the second operand is the immediate sign-extended. -/
theorem jumps64ImmediateForms : Obligations.Jumps64ImmediateForms := by
  intro s rd imm d a b ha hb
  have h {c : Word → Word → Bool} {taken : Bool} (hc : c a b = taken) :
      commit s (jump64Imm c rd imm d s) = jumped s taken d.toInt :=
    hc ▸ hb ▸ commit_jump64Imm ha imm d c
  exact ⟨h (condEq_eq a b), h (condNe_eq a b), h (c := condGt) rfl, h (c := condGe) rfl, h (c := condLt) rfl,
    h (c := condLe) rfl, h (condSet_eq a b), h (c := condSgt) rfl, h (c := condSge) rfl, h (c := condSlt) rfl,
    h (c := condSle) rfl⟩

/-- Settles O43: the operands are the low halves of the two registers. -/
theorem jumps32RegisterForms : Obligations.Jumps32RegisterForms := by
  intro s rd rs d a b x y ha hb hx hy
  have h {c : BitVec 32 → BitVec 32 → Bool} {taken : Bool} (hc : c x y = taken) :
      commit s (jump32Reg c rd rs d s) = jumped s taken d.toInt := by
    rw [commit_jump32Reg ha hb, low32_eq, low32_eq, ← hx, ← hy, hc]
  exact ⟨h (condEq_eq x y), h (condNe_eq x y), h (c := condGt) rfl, h (c := condGe) rfl, h (c := condLt) rfl,
    h (c := condLe) rfl, h (condSet_eq x y), h (c := condSgt) rfl, h (c := condSge) rfl, h (c := condSlt) rfl,
    h (c := condSle) rfl⟩

/-- Settles O44: the operands are the low half of the register and the bits of the immediate. -/
theorem jumps32ImmediateForms : Obligations.Jumps32ImmediateForms := by
  intro s rd imm d a x ha hx
  have h {c : BitVec 32 → BitVec 32 → Bool} {taken : Bool} (hc : c x imm = taken) :
      commit s (jump32Imm c rd imm d s) = jumped s taken d.toInt := by
    rw [commit_jump32Imm ha, low32_eq, ← hx, hc]
  exact ⟨h (condEq_eq x imm), h (condNe_eq x imm), h (c := condGt) rfl, h (c := condGe) rfl, h (c := condLt) rfl,
    h (c := condLe) rfl, h (condSet_eq x imm), h (c := condSgt) rfl, h (c := condSge) rfl, h (c := condSlt) rfl,
    h (c := condSle) rfl⟩

end Sys2Proof.Machine
end

section
/-! The family of socket-filter loads: the value of packet bytes as a sum, and the three outcomes of a load (rules R245 to
R251). -/

namespace Sys2Proof.Machine

/-- The packet bytes from k on as a number, the first one most significant (rule R245 (3)). -/
theorem packetValue_eq {packet : List Byte} {k n : Nat} (h : k + n ≤ packet.length) :
    packetValue packet k n =
      BitVec.ofNat 64 ((List.range n).map fun j => (packet.getD (k + j) 0).toNat * 256 ^ (n - 1 - j)).sum := by
  have hlen : ((packet.drop k).take n).length = n := by simp; omega
  rw [packetValue, littleValue_eq_sum, List.length_reverse, hlen]
  refine congrArg _ ((Finset.sum_range_reflect _ n).symm.trans ?_)
  change (List.map _ _).sum = _
  congr 1
  refine List.map_congr_left fun j hj => ?_
  rw [List.mem_range] at hj
  congr 2
  rw [List.getD_eq_getElem _ _ (by simp; omega), List.getD_eq_getElem _ _ (by omega), List.getElem_reverse,
    List.getElem_take, List.getElem_drop]
  congr 1
  omega

section
variable {s : State} {n : Nat}

theorem packetAccess_inside {k : Nat} (h : k + n ≤ s.params.packet.length) :
    packetAccess n s.params.ctx k s =
      .done () ((s.packetLoaded (packetValue s.params.packet k n)).advance 1) := by
  rw [packetAccess, if_neg (by simp), if_neg (by omega), Int.toNat_natCast]

theorem packetAccess_outside {k : Int} (h : k < 0 ∨ (s.params.packet.length : Int) < k + n) :
    packetAccess n s.params.ctx k s = .done () (s.exitWith 0) := by
  rw [packetAccess, if_neg (by simp), if_pos h]

theorem packetAccess_without_ctx {c : Word} (h : c ≠ s.params.ctx) (k : Int) :
    packetAccess n c k s = .raised (.memoryAccessFault c n .read) := by
  rw [packetAccess, if_pos h]

theorem packetAbsolute_eq {c : Word} (h6 : s.regs.r6 = some c) (n : Nat) (imm : BitVec 32) :
    packetAbsolute n imm s = packetAccess n c imm.toInt s := by
  rw [packetAbsolute, readReg_value (r := .r6) h6, Res.bind_done, absoluteIndex]

theorem packetIndirect_eq {rs : Reg} {c x : Word} (h6 : s.regs.r6 = some c) (hx : s.regs.get rs = some x) (n : Nat)
    (imm : BitVec 32) :
    packetIndirect n rs imm s = packetAccess n c (BitVec.ofInt 32 (x.toInt + imm.toInt)).toInt s := by
  rw [packetIndirect, readReg_value (r := .r6) h6, Res.bind_done, readReg_value hx, Res.bind_done, indirectIndex_eq]

end

/-- Settles O31. -/
theorem packetLoadsComplete : Obligations.PacketLoadsComplete := by
  intro s rs x imm k v h6 hv
  have hin {n : Nat} (hlen : k + n ≤ s.params.packet.length) :
      commit s (packetAccess n s.params.ctx k s) =
        .next { s with regs := (s.regs.set .r0 (v n)).dropArgs, pc := s.pc + 1 } := by
    rw [packetAccess_inside hlen, packetValue_eq hlen, ← hv n]
    rfl
  refine ⟨fun hk => ?_, fun hx hk => ?_⟩
  · have h {n : Nat} (hlen : k + n ≤ s.params.packet.length) :
        commit s (packetAbsolute n imm s) =
          .next { s with regs := (s.regs.set .r0 (v n)).dropArgs, pc := s.pc + 1 } := by
      rw [packetAbsolute_eq h6, hk, hin hlen]
    exact ⟨h, h, h⟩
  · have h {n : Nat} (hlen : k + n ≤ s.params.packet.length) :
        commit s (packetIndirect n rs imm s) =
          .next { s with regs := (s.regs.set .r0 (v n)).dropArgs, pc := s.pc + 1 } := by
      rw [packetIndirect_eq h6 hx, hk, hin hlen]
    exact ⟨h, h, h⟩

/-- Settles O32. -/
theorem packetLoadsOutsideEndTheRun : Obligations.PacketLoadsOutsideEndTheRun := by
  intro s rs c x imm h6 hx
  have habs {n : Nat} (hc : c = s.params.ctx) (ho : imm.toInt < 0 ∨ (s.params.packet.length : Int) < imm.toInt + n) :
      commit s (packetAbsolute n imm s) = .next { s with status := .exited 0 } := by
    rw [packetAbsolute_eq h6, hc, packetAccess_outside ho]
    rfl
  have hind {n : Nat} (k : Int) (hk : k = (BitVec.ofInt 32 (x.toInt + imm.toInt)).toInt) (hc : c = s.params.ctx)
      (ho : k < 0 ∨ (s.params.packet.length : Int) < k + n) :
      commit s (packetIndirect n rs imm s) = .next { s with status := .exited 0 } := by
    rw [packetIndirect_eq h6 hx, hc, ← hk, packetAccess_outside ho]
    rfl
  have hfault {n : Nat} (hc : c ≠ s.params.ctx) :
      commit s (packetAbsolute n imm s) = faulted s (.memoryAccessFault c n .read) ∧
      commit s (packetIndirect n rs imm s) = faulted s (.memoryAccessFault c n .read) := by
    rw [packetAbsolute_eq h6, packetIndirect_eq h6 hx, packetAccess_without_ctx hc, packetAccess_without_ctx hc]
    exact ⟨rfl, rfl⟩
  exact ⟨habs, hind, hfault, habs, hind, hfault, habs, hind, hfault⟩

end Sys2Proof.Machine
end

section
/-! The family of calls, returns and the environment: local calls and `exit`, helper calls and their outcomes, and the moves
of `ENV` (rules R68, R315 to R318, R416). -/

namespace Sys2Proof.Machine

/-! ### Calls and returns -/

theorem exitOrReturn_last {s : State} {v : Word} (h0 : s.regs.r0 = some v) (hf : s.frames = []) :
    exitOrReturn s = .done () (s.exitWith v) := by
  have hlast : s.frames.getLast? = none := by simp [hf]
  rw [exitOrReturn, readReg_value (r := .r0) h0, Res.bind_done, hlast]

theorem exitOrReturn_return {s : State} {v : Word} (h0 : s.regs.r0 = some v) {fs : List Frame} {f : Frame}
    (hf : s.frames = fs ++ [f]) : exitOrReturn s = .done () (s.returnTo f) := by
  have hlast : s.frames.getLast? = some f := by simp [hf]
  rw [exitOrReturn, readReg_value (r := .r0) h0, Res.bind_done, hlast]

theorem exec_exit_last {s : State} {v : Word} (h0 : s.regs.r0 = some v) (hf : s.frames = []) :
    exec .exit s = .next { s with status := .exited v } := by
  rw [exec_exit, exitOrReturn_last h0 hf]
  rfl

theorem exec_exit_return {s : State} {v : Word} (h0 : s.regs.r0 = some v) {fs : List Frame} {f : Frame}
    (hf : s.frames = fs ++ [f]) :
    exec .exit s = .next { s with
      frames := fs
      regs := ⟨some v, none, none, none, none, none, f.s6, f.s7, f.s8, f.s9, f.s10⟩
      pc := f.ret } := by
  rw [exec_exit, exitOrReturn_return h0 hf, commit_done, State.returnTo, hf, List.dropLast_concat, RegFile.restore_eq, h0]

/-- Settles O49. -/
theorem exitCompletes : Obligations.ExitCompletes :=
  fun _ _ h0 => ⟨exec_exit_last h0, fun _ _ hf => exec_exit_return h0 hf⟩

/-- Settles O50: the call saves what the return restores. -/
theorem callThenExitRestores : Obligations.CallThenExitRestores := by
  intro s t w u d v hs hcall ht hw hframes h0 hexit
  rw [exec_callLocal] at hcall
  obtain hr | ⟨c, -, rfl⟩ := commit_cases hcall
  · obtain ⟨-, rfl⟩ := callLocal_done hr
    rw [State.enterCall_frames] at hframes
    rw [exec_exit_return h0 hframes] at hexit
    obtain rfl := Host.Outcome.next.inj hexit
    exact ⟨rfl, rfl, hw, rfl, rfl⟩
  · cases ht

/-! ### Helper calls -/

theorem callHelper_of_lookup_some {id : BitVec 32} {s : State} {r : HelperRel}
    (h : s.params.helpers.lookup id = some r) :
    callHelper id s =
      .done () ((drawHelper s).2.afterHelper (outcomeOf r (drawHelper s).1 s.regs.args s.byteAt)) := by
  rw [callHelper, h]

/-- A helper's choices are the next draw fixed in advance, or a free value when none is left (rules R41, R316). -/
theorem drawHelper_cases (s : State) :
    (s.helperDraws = (drawHelper s).1 :: (drawHelper s).2.helperDraws ∧ (drawHelper s).2.draws = s.draws) ∨
    (s.helperDraws = [] ∧ (drawHelper s).2.helperDraws = [] ∧ (drawHelper s).2.draws = s.draws + 1 ∧
      (drawHelper s).1 = Config.helperDraw s.params.run s.draws) := by
  rw [drawHelper_draws, drawHelper_helperDraws]
  cases hd : s.helperDraws with
  | nil => exact .inr ⟨rfl, rfl, rfl, by rw [drawHelper, hd]⟩
  | cons ws rest => exact .inl ⟨by rw [drawHelper, hd]; rfl, rfl⟩

/-- Memory after a helper call: its outcome's bytes, at mapped addresses (rule R316). -/
theorem byteAt_drawHelper_afterHelper (s : State) (o : HelperOutcome) :
    ((drawHelper s).2.afterHelper o).byteAt = afterWrites (isMapped s.params) o.writes s.byteAt := by
  rw [State.byteAt_afterHelper, drawHelper_params, State.byteAt_congr (drawHelper_mem s) (drawHelper_params s)]

/-- Settles O47. -/
theorem helperCallCompletes : Obligations.HelperCallCompletes := by
  intro s id r hlookup
  have hmem := byteAt_drawHelper_afterHelper s (outcomeOf r (drawHelper s).1 s.regs.args s.byteAt)
  refine ⟨(drawHelper s).1, _, (drawHelper s).2.afterHelper (outcomeOf r (drawHelper s).1 s.regs.args s.byteAt), ?_,
    drawHelper_cases s, ⟨(drawHelper s).1, rfl, hmem⟩, rfl, congrFun hmem, ?_⟩
  · rw [exec_callHelper, callHelper_of_lookup_some hlookup, commit_done]
  · rw [State.afterHelper, drawHelper_state]
    rfl

/-- Settles O59: the draw is the list of choices that gives the outcome. -/
theorem everyHelperOutcomeCanHappen : Obligations.EveryHelperOutcomeCanHappen := by
  rintro s id r v mem' hlookup ⟨ws, rfl, rfl⟩
  refine ⟨ws, _, ?_, rfl, byteAt_drawHelper_afterHelper { s with helperDraws := [ws] } _⟩
  rw [exec_callHelper, callHelper_of_lookup_some (s := { s with helperDraws := [ws] }) hlookup, commit_done]
  rfl

/-! ### The moves of the environment -/

theorem EnvRelates.eq_of_not_shared {p : Params} {mem mem' : Nat → Byte} (h : EnvRelates p mem mem') {a : Nat}
    (ha : isShared p a = false) : mem' a = mem a := by
  obtain ⟨ws, rfl⟩ := h
  simp [afterWrites, ha]

theorem envChain_eq_of_not_shared {p : Params} {mem mem' : Nat → Byte}
    (h : Relation.ReflTransGen (EnvRelates p) mem mem') {a : Nat} (ha : isShared p a = false) : mem' a = mem a := by
  induction h with
  | refl => rfl
  | tail _ hmove ih => exact (hmove.eq_of_not_shared ha).trans ih

theorem EnvRelates.eq_of_identity {p : Params} {mem mem' : Nat → Byte} (h : EnvRelates p mem mem')
    (hid : p.env = .identity) : mem' = mem := by
  obtain ⟨ws, rfl⟩ := h
  funext a
  simp [afterWrites, envCells, hid, lastWrite]

/-- Moves in turn are a chain of the relation (rule R68). -/
theorem State.envMoves_relates (ds : List (List Word)) (s : State) :
    Relation.ReflTransGen (EnvRelates s.params) s.byteAt (ds.foldl State.envMove s).byteAt := by
  induction ds generalizing s with
  | nil => exact .refl
  | cons ws ds ih => exact .head (s.envMove_relates ws) (ih (s.envMove ws))

@[simp] theorem State.envMoves_params (ds : List (List Word)) (s : State) :
    (ds.foldl State.envMove s).params = s.params := by
  rw [State.envMoves_eq]

/-- Every chain of the relation is one of moves in turn. -/
theorem exists_envMoves {s : State} {mem' : Nat → Byte}
    (h : Relation.ReflTransGen (EnvRelates s.params) s.byteAt mem') :
    ∃ ds : List (List Word), (ds.foldl State.envMove s).byteAt = mem' := by
  induction h with
  | refl => exact ⟨[], rfl⟩
  | tail _ hmove ih =>
    obtain ⟨ds, rfl⟩ := ih
    obtain ⟨ws, rfl⟩ := hmove
    refine ⟨ds ++ [ws], ?_⟩
    rw [List.foldl_append, List.foldl_cons, List.foldl_nil, State.byteAt_envMove, State.envMoves_params]

theorem State.byteAt_envStep {s : State} (h : s.params.env ≠ .identity) :
    s.envStep.byteAt = ((drawEnv s).1.foldl State.envMove s).byteAt :=
  State.byteAt_congr (State.envStep_mem h) ((s.envStep_params).trans (State.envMoves_params _ _).symm)

/-- `ENV` leaves a memory that a chain of its moves reaches (rules R68, R416). -/
theorem State.envStep_relates (s : State) :
    Relation.ReflTransGen (EnvRelates s.params) s.byteAt s.envStep.byteAt := by
  by_cases hid : s.params.env = .identity
  · rw [State.envStep_quiet hid]
  · rw [State.byteAt_envStep hid]
    exact State.envMoves_relates _ s

/-- The draw of `ENV` is the next one fixed in advance, or a free value when none is left (rule R41). -/
theorem drawEnv_cases (s : State) :
    (s.envDraws = (drawEnv s).1 :: s.envDraws.tail) ∨
    (s.envDraws = [] ∧ (drawEnv s).1 = Config.envDraw s.params.run s.draws) := by
  cases hd : s.envDraws with
  | nil => exact .inr ⟨rfl, by rw [drawEnv, hd]⟩
  | cons d rest => exact .inl (by rw [drawEnv, hd]; rfl)

/-- Settles O56. -/
theorem envTouchesSharedMemoryOnly : Obligations.EnvTouchesSharedMemoryOnly := by
  refine fun s => ⟨s.envStep_eq, s.envStep_relates, fun a ha => ?_, fun hid => State.envStep_quiet hid, fun hid => ?_⟩
  · exact envChain_eq_of_not_shared s.envStep_relates ha
  · refine ⟨(drawEnv s).1, ?_, State.envStep_mem hid⟩
    rw [State.envStep_envDraws, if_neg hid, State.envStep_draws]
    obtain hd | ⟨hd, hw⟩ := drawEnv_cases s
    · exact .inl ⟨hd, if_neg fun h => by rw [h.2] at hd; cases hd⟩
    · exact .inr ⟨hd, by rw [hd]; rfl, if_pos ⟨hid, hd⟩, hw⟩

/-- Settles O60: the draw is the list of the choices of the moves. -/
theorem everyEnvMoveCanHappen : Obligations.EveryEnvMoveCanHappen := by
  intro s mem' h
  by_cases hid : s.params.env = .identity
  · refine ⟨[], ?_⟩
    rw [State.envStep_quiet (s := { s with envDraws := [[]] }) hid]
    induction h with
    | refl => rfl
    | tail _ hmove ih => exact ih.trans (hmove.eq_of_identity hid).symm
  · obtain ⟨ds, hds⟩ := exists_envMoves (s := s) h
    refine ⟨ds, ?_⟩
    calc State.byteAt (State.envStep { s with envDraws := [ds] })
      _ = (ds.foldl State.envMove { s with envDraws := [ds] }).byteAt := State.byteAt_envStep hid
      _ = (ds.foldl State.envMove s).byteAt :=
        State.byteAt_congr (State.envMoves_mem ds s [ds] s.draws) (by simp only [State.envMoves_params])
      _ = mem' := hds

end Sys2Proof.Machine
end

section
/-! The family of memory accesses: the bytes a store leaves, and what loads, stores and atomics do when their registers hold
values and their access may be performed (rules R54 to R66, R260 to R276, R360 to R390). -/

namespace Sys2Proof.Machine

/-! ### Values and bytes in memory -/

theorem State.toNat_valueAt (s : State) (a n : Nat) : (s.valueAt a n).toNat = memNat s a n := by
  rw [State.valueAt_eq, BitVec.toNat_ofNat, Nat.mod_eq_of_lt (memNat_lt s a n)]

theorem State.bytesAt_advance (s : State) (k : Int) (a n : Nat) : (s.advance k).bytesAt a n = s.bytesAt a n := by
  induction n generalizing a with
  | zero => rfl
  | succ n ih =>
    rw [State.bytesAt, State.bytesAt, ih]
    rfl

/-- The pc plays no part in what memory reads as. -/
theorem State.valueAt_advance (s : State) (k : Int) (a n : Nat) : (s.advance k).valueAt a n = s.valueAt a n := by
  rw [State.valueAt, State.valueAt, State.bytesAt_advance, State.advance_params]

/-- Bytes are those of the number they spell. -/
theorem littleBytes_littleValue (bs : List Byte) : littleBytes bs.length (littleValue bs) = bs := by
  induction bs with
  | nil => rfl
  | cons b bs ih =>
    have hb := b.isLt
    have hlow : BitVec.ofNat 8 (b.toNat + 256 * littleValue bs) = b := by
      apply BitVec.eq_of_toNat_eq
      rw [BitVec.toNat_ofNat]
      omega
    have hhigh : (b.toNat + 256 * littleValue bs) / 256 = littleValue bs := by omega
    rw [List.length_cons, littleValue, littleBytes, hlow, hhigh, ih]

/-- The byte number i of a stored value is at its `byteAddress` (rule R60). -/
theorem State.byteAt_storeAt (s : State) (a : Nat) {n i : Nat} (w : BitVec (8 * n)) (hi : i < n) :
    (s.storeAt a n w).byteAt (byteAddress s.params.endian a n i) = BitVec.ofNat 8 (w.toNat / 256 ^ i) := by
  have hbyte {j : Nat} (hj : j < n) : (s.storeAt a n w).byteAt (a + j) =
      (inOrder s.params.endian (littleBytes n w.toNat))[j]'(by simpa using hj) := by
    rw [← State.getElem_bytesAt _ a n (by simpa using hj)]
    simp only [State.bytesAt_storeAt]
  cases he : s.params.endian with
  | little =>
    rw [byteAddress, hbyte hi]
    simp only [he, inOrder, getElem_littleBytes]
  | big =>
    rw [byteAddress, hbyte (by omega)]
    simp only [he, inOrder, List.getElem_reverse, length_littleBytes, getElem_littleBytes]
    congr 3
    omega

/-- Storing a value where it is read from changes no byte. -/
theorem State.byteAt_storeAt_valueAt (s : State) (a n b : Nat) :
    (s.storeAt a n (s.valueAt a n)).byteAt b = s.byteAt b := by
  by_cases hb : b < a ∨ a + n ≤ b
  · exact State.byteAt_storeAt_other s _ hb
  · have hbytes : (s.storeAt a n (s.valueAt a n)).bytesAt a n = s.bytesAt a n := by
      have hlt : littleValue (inOrder s.params.endian (s.bytesAt a n)) < 2 ^ (8 * n) := by
        have hlt := littleValue_lt (inOrder s.params.endian (s.bytesAt a n))
        rwa [length_inOrder, State.length_bytesAt, show 256 ^ n = 2 ^ (8 * n) by rw [pow_mul]; norm_num] at hlt
      have hback := littleBytes_littleValue (inOrder s.params.endian (s.bytesAt a n))
      rw [length_inOrder, State.length_bytesAt] at hback
      rw [State.bytesAt_storeAt, State.valueAt, BitVec.toNat_ofNat, Nat.mod_eq_of_lt hlt, hback, inOrder_inOrder]
    obtain ⟨j, rfl⟩ : ∃ j, b = a + j := ⟨b - a, by omega⟩
    rw [← State.getElem_bytesAt s a n (by simp; omega), ← State.getElem_bytesAt _ a n (by simp; omega)]
    simp only [hbytes]

/-- The bytes of a number do not depend on what is above them. -/
theorem ofNat_mod_div {n i : Nat} (v : Nat) (hi : i < n) :
    BitVec.ofNat 8 (v % 2 ^ (8 * n) / 256 ^ i) = BitVec.ofNat 8 (v / 256 ^ i) := by
  have hpow : 2 ^ (8 * n) = 256 ^ i * 256 ^ (n - i) := by
    rw [← Nat.pow_add, Nat.add_sub_cancel' hi.le, pow_mul]
    norm_num
  have hdvd : 2 ^ 8 ∣ 256 ^ (n - i) := dvd_pow_self 256 (by omega)
  apply BitVec.eq_of_toNat_eq
  rw [BitVec.toNat_ofNat, BitVec.toNat_ofNat, hpow, Nat.mod_mul_right_div_self, Nat.mod_mod_of_dvd _ hdvd]

/-- A state in which w has been stored at a, the registers are g and pc is at the next slot. -/
theorem storesAndGoesOn (s : State) (a n : Nat) (g : RegFile) {w : BitVec (8 * n)} {v : Nat}
    (hw : w.toNat = v % 2 ^ (8 * n)) :
    StoresAndGoesOn s (.next (((s.storeAt a n w).setRegs g).advance 1)) a n v g := by
  refine ⟨_, rfl, rfl, fun i hi => ?_, fun b hb => State.byteAt_storeAt_other s w hb⟩
  exact (State.byteAt_storeAt s a w hi).trans (by rw [hw, ofNat_mod_div v hi])

theorem toNat_eq_mod {n v : Nat} {w : BitVec n} (h : w.toNat = v) : w.toNat = v % 2 ^ n := by
  subst h
  exact (Nat.mod_eq_of_lt w.isLt).symm

/-! ### The shapes, when the operands hold values and the access may be performed -/

section
variable {s : State} {rd rs : Reg} {off : BitVec 16} {b v : Word} {a n : Nat}

theorem memRead_of_canAccess {ea : Word} (h : CanAccess s.params ea.toNat n .read) :
    memRead ea n s = .done (s.valueAt ea.toNat n) s := by
  simp only [memRead, checkAccess_eq_none_iff.2 h]

theorem memWrite_of_canAccess {ea : Word} (w : BitVec (8 * n)) (h : CanAccess s.params ea.toNat n .write) :
    memWrite ea n w s = .done () (s.storeAt ea.toNat n w) := by
  simp only [memWrite, checkAccess_eq_none_iff.2 h]

theorem atomicRMW_of_canAccess {ea : Word} (f : BitVec (8 * n) → BitVec (8 * n))
    (h : CanAccess s.params ea.toNat n .readwrite) :
    atomicRMW ea n f s = .done (s.valueAt ea.toNat n) (s.storeAt ea.toNat n (f (s.valueAt ea.toNat n))) := by
  simp only [atomicRMW, checkAccess_eq_none_iff.2 h]

theorem commit_load (hb : s.regs.get rs = some b) (ha : a = (b + BitVec.ofInt 64 off.toInt).toNat)
    (hc : CanAccess s.params a n .read) (rd : Reg) (w : BitVec (8 * n) → Word) :
    commit s (load n w rd rs off s) = wrote s rd (w (s.valueAt a n)) := by
  subst ha
  rw [load, readReg_value hb, Res.bind_done, effectiveAddress_eq, memRead_of_canAccess hc, Res.bind_done, commit_finish]

theorem commit_storeReg (hb : s.regs.get rd = some b) (hv : s.regs.get rs = some v)
    (ha : a = (b + BitVec.ofInt 64 off.toInt).toNat) (hc : CanAccess s.params a n .write) :
    commit s (storeReg n rd rs off s) =
      .next (((s.storeAt a n (v.setWidth (8 * n))).setRegs s.regs).advance 1) := by
  subst ha
  rw [storeReg, readReg_value hb, Res.bind_done, readReg_value hv, Res.bind_done, effectiveAddress_eq,
    memWrite_of_canAccess _ hc, Res.bind_done, commit_done]
  rfl

theorem commit_storeImm (hb : s.regs.get rd = some b) (ha : a = (b + BitVec.ofInt 64 off.toInt).toNat)
    (hc : CanAccess s.params a n .write) (imm : BitVec 32) :
    commit s (storeImm n rd off imm s) =
      .next (((s.storeAt a n ((sext64 imm).setWidth (8 * n))).setRegs s.regs).advance 1) := by
  subst ha
  rw [storeImm, readReg_value hb, Res.bind_done, effectiveAddress_eq, memWrite_of_canAccess _ hc, Res.bind_done,
    commit_done]
  rfl

theorem commit_atomicUpdate (hb : s.regs.get rd = some b) (hv : s.regs.get rs = some v)
    (ha : a = (b + BitVec.ofInt 64 off.toInt).toNat) (hc : CanAccess s.params a n .readwrite)
    (f : BitVec (8 * n) → BitVec (8 * n) → BitVec (8 * n)) :
    commit s (atomicUpdate n f rd rs off s) =
      .next (((s.storeAt a n (f (s.valueAt a n) (v.setWidth (8 * n)))).setRegs s.regs).advance 1) := by
  subst ha
  rw [atomicUpdate, readReg_value hb, Res.bind_done, readReg_value hv, Res.bind_done, effectiveAddress_eq,
    atomicRMW_of_canAccess _ hc, Res.bind_done, commit_done]
  rfl

theorem commit_atomicFetch (hb : s.regs.get rd = some b) (hv : s.regs.get rs = some v)
    (ha : a = (b + BitVec.ofInt 64 off.toInt).toNat) (hc : CanAccess s.params a n .readwrite)
    (f : BitVec (8 * n) → BitVec (8 * n) → BitVec (8 * n)) :
    commit s (atomicFetch n f rd rs off s) =
      .next (((s.storeAt a n (f (s.valueAt a n) (v.setWidth (8 * n)))).setRegs
        (s.regs.set rs (BitVec.ofNat 64 (memNat s a n)))).advance 1) := by
  subst ha
  rw [atomicFetch, readReg_value hb, Res.bind_done, readReg_value hv, Res.bind_done, effectiveAddress_eq,
    atomicRMW_of_canAccess _ hc, Res.bind_done, finish, commit_done, zext64_eq, State.toNat_valueAt]
  rfl

theorem commit_atomicCompare {e : Word} (hb : s.regs.get rd = some b) (hv : s.regs.get rs = some v)
    (he : s.regs.r0 = some e) (ha : a = (b + BitVec.ofInt 64 off.toInt).toNat)
    (hc : CanAccess s.params a n .readwrite) :
    commit s (atomicCompare n rd rs off s) =
      .next (((s.storeAt a n (if s.valueAt a n = e.setWidth (8 * n) then v.setWidth (8 * n) else s.valueAt a n)).setRegs
        (s.regs.set .r0 (BitVec.ofNat 64 (memNat s a n)))).advance 1) := by
  subst ha
  rw [atomicCompare, readReg_value hb, Res.bind_done, readReg_value hv, Res.bind_done, readReg_value (r := .r0) he,
    Res.bind_done, effectiveAddress_eq, atomicRMW_of_canAccess _ hc, Res.bind_done, finish, commit_done, zext64_eq,
    State.toNat_valueAt]
  rfl

end

/-! ### Loads and stores -/

/-- Settles O33. -/
theorem loadsComplete : Obligations.LoadsComplete := by
  intro s rd rs off b a hb ha
  have hzero {n : Nat} (hc : CanAccess s.params a n .read) :
      commit s (load n zext64 rd rs off s) = wrote s rd (BitVec.ofNat 64 (memNat s a n)) := by
    rw [commit_load hb ha hc, zext64_eq, State.toNat_valueAt]
  have hsign {n : Nat} (hc : CanAccess s.params a n .read) :
      commit s (load n sext64 rd rs off s) =
        wrote s rd (BitVec.ofInt 64 (BitVec.ofNat (8 * n) (memNat s a n)).toInt) := by
    rw [commit_load hb ha hc, sext64_eq, State.valueAt_eq]
  exact ⟨hzero, hzero, hzero, hzero, hsign, hsign, hsign, hsign⟩

/-- Settles O34. -/
theorem registerStoresComplete : Obligations.RegisterStoresComplete := by
  intro s rd rs off b v a hb hv ha
  have h {n : Nat} (hc : CanAccess s.params a n .write) :
      StoresAndGoesOn s (commit s (storeReg n rd rs off s)) a n v.toNat s.regs := by
    rw [commit_storeReg hb hv ha hc]
    exact storesAndGoesOn s a n s.regs (BitVec.toNat_setWidth _ v)
  exact ⟨h, h, h, h⟩

theorem toNat_sext64_mod (imm : BitVec 32) : (sext64 imm).toNat % 2 ^ 32 = imm.toNat := by
  have h : (sext64 imm).setWidth 32 = imm := by
    apply BitVec.eq_of_getLsbD_eq
    intro j hj
    rw [sext64, BitVec.getLsbD_setWidth, BitVec.getLsbD_signExtend]
    simp [hj, show j < 64 by omega]
  rw [← BitVec.toNat_setWidth, h]

/-- Settles O35: the bytes stored are among the low 32 bits, but for `stdw`. -/
theorem immediateStoresComplete : Obligations.ImmediateStoresComplete := by
  intro s rd off imm b a hb ha
  have h {n v : Nat} (hv : ((sext64 imm).setWidth (8 * n)).toNat = v % 2 ^ (8 * n))
      (hc : CanAccess s.params a n .write) :
      StoresAndGoesOn s (commit s (storeImm n rd off imm s)) a n v s.regs := by
    rw [commit_storeImm hb ha hc]
    exact storesAndGoesOn s a n s.regs hv
  have hlow {n : Nat} (hn : 2 ^ (8 * n) ∣ 2 ^ 32) :
      ((sext64 imm).setWidth (8 * n)).toNat = imm.toNat % 2 ^ (8 * n) := by
    rw [BitVec.toNat_setWidth, ← Nat.mod_mod_of_dvd _ hn, toNat_sext64_mod]
  exact ⟨h (BitVec.toNat_setWidth _ _), h (hlow (by norm_num)), h (hlow (by norm_num)), h (hlow (by norm_num))⟩

/-- Settles O37: the load finds in memory the value that the store left there. -/
theorem storeThenLoad : Obligations.StoreThenLoad := by
  intro s t rd rb rs off b v a hs hb hv ha ht
  have h {n : Nat} (hstore : commit s (storeReg n rb rs off s) = .next t) (hc : CanAccess s.params a n .read)
      (w : BitVec (8 * n) → Word) : commit t (load n w rd rb off t) = wrote t rd (w (v.setWidth (8 * n))) := by
    obtain hdone | ⟨c, -, rfl⟩ := commit_cases hstore
    · rw [storeReg, readReg_value hb, Res.bind_done, readReg_value hv, Res.bind_done, effectiveAddress_eq] at hdone
      obtain ⟨_, s1, hwrite, hgo⟩ := Res.bind_eq_done.1 hdone
      obtain ⟨-, rfl⟩ := memWrite_done hwrite
      cases hgo
      rw [← ha, commit_load (s := (s.storeAt a n (v.setWidth (8 * n))).advance 1) (a := a) hb ha hc, State.valueAt_advance,
        State.valueAt_storeAt]
    · cases ht
  have hzero {n : Nat} : zext64 (v.setWidth n) = BitVec.ofNat 64 (v.toNat % 2 ^ n) := by
    rw [zext64_eq, BitVec.toNat_setWidth]
  have hsign {n : Nat} : sext64 (v.setWidth n) = BitVec.ofInt 64 (BitVec.ofNat n v.toNat).toInt := by
    rw [sext64_eq, BitVec.ofNat_toNat]
  exact ⟨fun hx hc => ⟨hzero ▸ h (n := 8) hx hc zext64, hsign ▸ h (n := 8) hx hc sext64⟩,
    fun hx hc => ⟨hzero ▸ h (n := 4) hx hc zext64, hsign ▸ h (n := 4) hx hc sext64⟩,
    fun hx hc => ⟨hzero ▸ h (n := 2) hx hc zext64, hsign ▸ h (n := 2) hx hc sext64⟩,
    fun hx hc => ⟨hzero ▸ h (n := 1) hx hc zext64, hsign ▸ h (n := 1) hx hc sext64⟩⟩

/-! ### Atomics -/

section
variable {s : State} {a n m x : Nat} {v : Word}

/-- The sum that an atomic stores, as a number. -/
theorem toNat_valueAt_add (hm : m = memNat s a n) (hx : x = v.toNat % 2 ^ (8 * n)) :
    (s.valueAt a n + v.setWidth (8 * n)).toNat = (m + x) % 2 ^ (8 * n) := by
  rw [BitVec.toNat_add, State.toNat_valueAt, BitVec.toNat_setWidth, hm, hx]

theorem toNat_valueAt_or (hm : m = memNat s a n) (hx : x = v.toNat % 2 ^ (8 * n)) :
    (s.valueAt a n ||| v.setWidth (8 * n)).toNat = m ||| x := by
  rw [BitVec.toNat_or, State.toNat_valueAt, BitVec.toNat_setWidth, hm, hx]

theorem toNat_valueAt_and (hm : m = memNat s a n) (hx : x = v.toNat % 2 ^ (8 * n)) :
    (s.valueAt a n &&& v.setWidth (8 * n)).toNat = m &&& x := by
  rw [BitVec.toNat_and, State.toNat_valueAt, BitVec.toNat_setWidth, hm, hx]

theorem toNat_valueAt_xor (hm : m = memNat s a n) (hx : x = v.toNat % 2 ^ (8 * n)) :
    (s.valueAt a n ^^^ v.setWidth (8 * n)).toNat = m ^^^ x := by
  rw [BitVec.toNat_xor, State.toNat_valueAt, BitVec.toNat_setWidth, hm, hx]

end

/-- Settles O51. -/
theorem atomicUpdatesComplete : Obligations.AtomicUpdatesComplete := by
  have h {n : Nat} {s : State} {rd rs : Reg} {off : BitVec 16} {b v : Word} {a y : Nat} (hb : s.regs.get rd = some b)
      (hv : s.regs.get rs = some v) (ha : a = (b + BitVec.ofInt 64 off.toInt).toNat)
      (hc : CanAccess s.params a n .readwrite) {f : BitVec (8 * n) → BitVec (8 * n) → BitVec (8 * n)}
      (hf : (f (s.valueAt a n) (v.setWidth (8 * n))).toNat = y) :
      StoresAndGoesOn s (commit s (atomicUpdate n f rd rs off s)) a n y s.regs := by
    rw [commit_atomicUpdate hb hv ha hc]
    exact storesAndGoesOn s a n s.regs (toNat_eq_mod hf)
  refine ⟨fun s rd rs off b v a m x hb hv ha hm hx hc => ?_, fun s rd rs off b v a m x hb hv ha hm hx hc => ?_⟩
  · exact ⟨h hb hv ha hc (toNat_valueAt_add hm hx), h hb hv ha hc (toNat_valueAt_or hm hx),
      h hb hv ha hc (toNat_valueAt_and hm hx), h hb hv ha hc (toNat_valueAt_xor hm hx)⟩
  · exact ⟨h hb hv ha hc (toNat_valueAt_add hm hx), h hb hv ha hc (toNat_valueAt_or hm hx),
      h hb hv ha hc (toNat_valueAt_and hm hx), h hb hv ha hc (toNat_valueAt_xor hm hx)⟩

/-- Settles O52. -/
theorem atomicFetchesComplete : Obligations.AtomicFetchesComplete := by
  have h {n : Nat} {s : State} {rd rs : Reg} {off : BitVec 16} {b v : Word} {a m y : Nat} (hb : s.regs.get rd = some b)
      (hv : s.regs.get rs = some v) (ha : a = (b + BitVec.ofInt 64 off.toInt).toNat) (hm : m = memNat s a n)
      (hc : CanAccess s.params a n .readwrite) {f : BitVec (8 * n) → BitVec (8 * n) → BitVec (8 * n)}
      (hf : (f (s.valueAt a n) (v.setWidth (8 * n))).toNat = y) :
      StoresAndGoesOn s (commit s (atomicFetch n f rd rs off s)) a n y (s.regs.set rs (BitVec.ofNat 64 m)) := by
    rw [commit_atomicFetch hb hv ha hc, hm]
    exact storesAndGoesOn s a n _ (toNat_eq_mod hf)
  refine ⟨fun s rd rs off b v a m x hb hv ha hm hx hc => ?_, fun s rd rs off b v a m x hb hv ha hm hx hc => ?_⟩
  · exact ⟨h hb hv ha hm hc (toNat_valueAt_add hm hx), h hb hv ha hm hc (toNat_valueAt_or hm hx),
      h hb hv ha hm hc (toNat_valueAt_and hm hx), h hb hv ha hm hc (toNat_valueAt_xor hm hx),
      h (f := fun _ y => y) hb hv ha hm hc (hx ▸ BitVec.toNat_setWidth _ v)⟩
  · exact ⟨h hb hv ha hm hc (toNat_valueAt_add hm hx), h hb hv ha hm hc (toNat_valueAt_or hm hx),
      h hb hv ha hm hc (toNat_valueAt_and hm hx), h hb hv ha hm hc (toNat_valueAt_xor hm hx),
      h (f := fun _ y => y) hb hv ha hm hc (hx ▸ BitVec.toNat_setWidth _ v)⟩

/-- Settles O53: on a mismatch the old value is stored again, which changes no byte. -/
theorem compareAndSwapCompletes : Obligations.CompareAndSwapCompletes := by
  have h {n : Nat} (s : State) (rd rs : Reg) (off : BitVec 16) (b v e : Word) (a m : Nat)
      (hb : s.regs.get rd = some b) (hv : s.regs.get rs = some v) (he : s.regs.r0 = some e)
      (ha : a = (b + BitVec.ofInt 64 off.toInt).toNat) (hm : m = memNat s a n)
      (hc : CanAccess s.params a n .readwrite) :
      (m = e.toNat % 2 ^ (8 * n) → StoresAndGoesOn s (commit s (atomicCompare n rd rs off s)) a n v.toNat
        (s.regs.set .r0 (BitVec.ofNat 64 m))) ∧
      (m ≠ e.toNat % 2 ^ (8 * n) → StoresAndGoesOn s (commit s (atomicCompare n rd rs off s)) a n m
          (s.regs.set .r0 (BitVec.ofNat 64 m)) ∧
        ∃ t, commit s (atomicCompare n rd rs off s) = .next t ∧ ∀ c, t.byteAt c = s.byteAt c) := by
    have hmatch : s.valueAt a n = e.setWidth (8 * n) ↔ m = e.toNat % 2 ^ (8 * n) := by
      rw [BitVec.toNat_eq, State.toNat_valueAt, BitVec.toNat_setWidth, hm]
    rw [commit_atomicCompare hb hv he ha hc, ← hm]
    refine ⟨fun heq => ?_, fun hne => ?_⟩
    · rw [if_pos (hmatch.2 heq)]
      exact storesAndGoesOn s a n _ (BitVec.toNat_setWidth _ v)
    · rw [if_neg (mt hmatch.1 hne)]
      exact ⟨storesAndGoesOn s a n _ (toNat_eq_mod ((s.toNat_valueAt a n).trans hm.symm)), _, rfl,
        s.byteAt_storeAt_valueAt a n⟩
  exact ⟨h (n := 8), h (n := 4)⟩

end Sys2Proof.Machine
end
